-- ==== Sys2Proof/Word.lean ====
section
/-! DEFINITION. The words of the machine: a register slot, a byte of memory, the operand fields of
an instruction. -/

namespace Sys2Proof

/-- A register slot of 64 bits. With `XLEN = 64` (`spec/00_scope.md` R6) it is the register; with
`XLEN = 32` the register is its low half and the upper half is zero (log 2). -/
abbrev Word := BitVec 64

/-- One byte of memory (`spec/20_memory.md` R71). -/
abbrev Byte := BitVec 8

/-- The 5-bit number of an integer or floating-point register (`spec/10_state.md` R30, R39). -/
abbrev Reg := BitVec 5

/-- The 3-bit designator of a 16-bit instruction: register `8 + field` (`spec/30_encoding.md` R127). -/
abbrev CReg := BitVec 3

end Sys2Proof
end

