-- ==== Sys2Proof/Config.lean ====
section
/-! DEFINITION. The parameters of the machine (`spec/00_scope.md` R6) as plain data. A machine keeps
its parameters for ever: `State.cfg` holds them and no step changes them (log 1). -/

namespace Sys2Proof

/-- `XLEN`: the width of an integer register (`spec/00_scope.md` R6). -/
inductive Xlen where
  | x32
  | x64
deriving DecidableEq, Repr

/-- The number of bits of a register. -/
def Xlen.bits : Xlen → Nat
  | .x32 => 32
  | .x64 => 64

/-- The base instruction set: `XLEN = 32`, with or without the 16-bit instructions (`C`), or
`XLEN = 64`, which has none (`spec/00_scope.md` R5 (c), `spec/44_rvc.md` R330 (a)). -/
inductive Base where
  | rv32 (c : Bool)
  | rv64
deriving DecidableEq, Repr

/-- The floating-point part of `EXT`: `D` is present only with `F` (`spec/00_scope.md` R2). -/
inductive FpExt where
  | none
  | f
  | fd
deriving DecidableEq, Repr

/-- What decoding depends on: `XLEN` and `EXT` (`spec/30_encoding.md` R121). `m` is Table B.5, `s` is
Table B.8. -/
structure Isa where
  base : Base
  m : Bool
  fp : FpExt
  s : Bool
deriving DecidableEq, Repr

/-- `XLEN` of an instruction set. -/
def Isa.xlen (i : Isa) : Xlen :=
  match i.base with
  | .rv32 _ => .x32
  | .rv64 => .x64

/-- Is `C` in `EXT`? -/
def Isa.hasC (i : Isa) : Bool :=
  match i.base with
  | .rv32 c => c
  | .rv64 => false

/-- Is `F` in `EXT`? -/
def Isa.hasF (i : Isa) : Bool :=
  match i.fp with
  | .none => false
  | .f | .fd => true

/-- Is `D` in `EXT`? -/
def Isa.hasD (i : Isa) : Bool :=
  match i.fp with
  | .none | .f => false
  | .fd => true

/-- `FLEN = 64`, that is `D` is present (`spec/10_state.md` R40). DESIGN CHOICE (log 27): without `F`,
where `spec/00_scope.md` R6 leaves `FLEN` undefined, the model takes 32. Safe: no instruction of such a
machine reaches a floating-point register. -/
def Isa.flen64 (i : Isa) : Bool := i.hasD

/-- `IALIGN/8`: instruction addresses are multiples of 2 with `C`, of 4 without
(`spec/10_state.md` R36). -/
def Isa.ialignBytes (i : Isa) : Nat := if i.hasC then 2 else 4

/-- The reference instruction set `RV32` (`spec/00_scope.md` R7). -/
def Isa.rv32ref : Isa := { base := .rv32 true, m := true, fp := .fd, s := true }

/-- The reference instruction set `RV64` (`spec/00_scope.md` R7). -/
def Isa.rv64ref : Isa := { base := .rv64, m := true, fp := .fd, s := true }

/-- A privilege mode (`spec/10_state.md` R46). -/
inductive Priv where
  | u
  | s
  | m
deriving DecidableEq, Repr

/-- `PRIV_MODES`: {M}, {M,U} or {M,S,U} (`spec/00_scope.md` R6). -/
inductive PrivModes where
  | m
  | mu
  | msu
deriving DecidableEq, Repr

/-- Membership in `PRIV_MODES`. -/
def PrivModes.has : PrivModes → Priv → Bool
  | _, .m => true
  | .m, _ => false
  | .mu, .u => true
  | .mu, .s => false
  | .msu, _ => true

/-- The lowest member of `PRIV_MODES` (`spec/60_exceptions.md` R481). -/
def PrivModes.lowest : PrivModes → Priv
  | .m => .m
  | .mu => .u
  | .msu => .u

/-- `TRAP_LAYER` (`spec/60_exceptions.md` R472, R480). -/
inductive TrapLayer where
  | fault
  | mmode
deriving DecidableEq, Repr

/-- `MISALIGNED_DATA` (`spec/20_memory.md` R76). -/
inductive Misaligned where
  | fault
  | split
deriving DecidableEq, Repr

/-- `FNM_CONVENTION` (`spec/42_rvfd.md` R242, R243). -/
inductive FnmConvention where
  | source
  | ratified
deriving DecidableEq, Repr

/-- One result of `DIV_CORNERS`: the dividend, or a fixed value (log 17). -/
inductive CornerResult where
  | dividend
  | value (v : Word)
deriving DecidableEq, Repr

/-- `DIV_CORNERS`: the four results of `spec/43_rvm.md` R310 (e). -/
structure DivCorners where
  zeroQuot : CornerResult
  zeroRem : CornerResult
  ovfQuot : CornerResult
  ovfRem : CornerResult
deriving DecidableEq, Repr

/-- The values R310 (e) takes: all ones, the dividend; the dividend (it is `-2^(XLEN-1)`), zero. -/
def DivCorners.reference : DivCorners :=
  { zeroQuot := .value (BitVec.allOnes 64), zeroRem := .dividend
    ovfQuot := .dividend, ovfRem := .value 0#64 }

/-- One range `[lo, hi)` of `MEM_MAP` with its permissions (`spec/20_memory.md` R81). -/
structure Region where
  lo : Nat
  hi : Nat
  read : Bool
  write : Bool
  exec : Bool
deriving DecidableEq, Repr

/-- The control and status registers the spec describes (`spec/10_state.md` R43 to R45). -/
inductive Csr where
  | fflags
  | frm
  | fcsr
  | uepc
  | sepc
  | mepc
  | mstatus
  | mtvec
  | mscratch
  | mcause
  | mtval
deriving DecidableEq, Repr

/-! ## `CSR_FILE` -/

/-- What the bits of a field of a register do (`spec/10_state.md` R43, R44, `spec/46_priv_csr.md` R452 (4),
(6)). -/
inductive CsrFieldKind where
  /-- Holds any value written. -/
  | any
  /-- Holds only these values: a write of another leaves the field. -/
  | legal (values : List Word)
  /-- Read-only: a write leaves the field. -/
  | readOnly
  /-- Reads as zero. -/
  | zero
deriving DecidableEq, Repr

/-- A field of a register: its lowest bit, its width, its kind. -/
structure CsrField where
  lo : Nat
  width : Nat
  kind : CsrFieldKind
deriving DecidableEq, Repr

/-- The description of a register that the spec does not describe itself (`spec/10_state.md` R42): its
number, its fields, its reset value if that is specified. Bits in no field are reserved and keep their
values. Who may access it is in the number (`spec/46_priv_csr.md` R452; log 18). One with the number
of a described register is another register (log 34). -/
structure CsrDesc where
  num : BitVec 12
  fields : List CsrField
  reset : Option Word
deriving DecidableEq, Repr

/-! ## `FP_NUMERICS` -/

/-- Which instance of `FP_NUMERICS` a machine has (`spec/42_rvfd.md` R234): the reference one, or another,
by an index into instances of which nothing is known (log 16). -/
inductive Numerics where
  | ieee
  | other (index : Nat)
deriving DecidableEq, Repr

/-! ## `HOST` -/

/-- A register that a service reads or writes. -/
inductive HostReg where
  | x (r : Reg)
  | f (r : Reg)
deriving DecidableEq, Repr

/-- Memory that a service reads or writes: `x[len] + extra` bytes from `x[base] + off` on. With `x0` both
are constants. -/
structure HostArea where
  base : Reg
  off : Word
  len : Reg
  extra : Nat
deriving DecidableEq, Repr

/-- A condition on the stopped state: the value of a register (by convention `a7`), or one of which
nothing is known, on what the row reads. -/
inductive HostCond where
  | equals (r : HostReg) (v : Word)
  | other (index : Nat)
deriving DecidableEq, Repr

/-- One row of `HOST` (`spec/70_reset_and_hazards.md` R526): the conditions that select it, what it reads,
what it writes, whether the run resumes. -/
structure HostService where
  id : Nat
  selects : List HostCond
  regsRead : List HostReg
  memRead : List HostArea
  regsWritten : List HostReg
  memWritten : List HostArea
  resumes : Bool
deriving DecidableEq, Repr

/-- What a service sees: which it is, the values of the registers and of the bytes it reads, and how many
free values the run has drawn before. -/
structure HostQuery where
  service : Nat
  regs : List Word
  bytes : List Byte
  draw : Nat
deriving DecidableEq, Repr

/-- FREE VALUE (log 20): value number `i` that a service writes. The spec describes no service
(`spec/70_reset_and_hazards.md` R526). -/
opaque Config.hostValue : HostQuery → Nat → Word

/-- FREE VALUE (log 20): a condition of which nothing is known. -/
opaque Config.hostCondition : Nat → HostQuery → Bool

/-! ## The parameters together -/

/-- The parameters of `spec/00_scope.md` R6. `csrFile` lists the registers of `CSR_FILE` that the spec
describes, `extraCsrs` describes the others. -/
structure Config where
  isa : Isa
  memMap : List Region
  resetPc : Word
  misaligned : Misaligned
  privModes : PrivModes
  csrFile : List Csr
  extraCsrs : List CsrDesc
  trapLayer : TrapLayer
  fnm : FnmConvention
  numerics : Numerics
  div : DivCorners
  host : List HostService
deriving DecidableEq, Repr

/-- `XLEN` of a machine. -/
def Config.xlen (c : Config) : Xlen := c.isa.xlen

/-- The reference `CSR_FILE` (`spec/10_state.md` R42): R43, with `F` also R44, with the trap layer
also R45. The exception program counters are there whether or not `S` is (only Table B.8 reaches
them). -/
def Csr.reference (i : Isa) (t : TrapLayer) : List Csr :=
  [.uepc, .sepc, .mepc]
    ++ (if i.hasF then [.fflags, .frm, .fcsr] else [])
    ++ (match t with
        | .fault => []
        | .mmode => [.mstatus, .mtvec, .mscratch, .mcause, .mtval])

/-- The whole address space, readable, writable and executable (`spec/20_memory.md` R81). -/
def Region.whole (x : Xlen) : Region :=
  { lo := 0, hi := 2 ^ x.bits, read := true, write := true, exec := true }

/-- A machine of the given instruction set, trap layer and modes with every other parameter at its
reference value (`spec/00_scope.md` R6). DESIGN CHOICE (log 3): `RESET_PC` has no default in the
spec; 0x1000 here. Unsafe for claims that rest on that address. -/
def Config.standard (i : Isa) (t : TrapLayer) (p : PrivModes) : Config :=
  { isa := i, memMap := [Region.whole i.xlen], resetPc := 0x1000#64, misaligned := .fault
    privModes := p, csrFile := Csr.reference i t, extraCsrs := [], trapLayer := t
    fnm := .source, numerics := .ieee, div := DivCorners.reference, host := [] }

/-- The reference configuration `RV32` (`spec/00_scope.md` R7). -/
def Config.reference : Config := Config.standard Isa.rv32ref .fault .m

/-- The reference configuration `RV64` (`spec/00_scope.md` R7). -/
def Config.reference64 : Config := Config.standard Isa.rv64ref .fault .m

/-- FREE VALUE (log 15): of the bytes that a misaligned store split into single bytes could write below
the first one it may not write, how many it has written when it raises. `spec/20_memory.md` R76 says
that they "may already have been written"; nothing constrains the number. The argument is the count of
such stores so far. -/
opaque Config.splitProgress : Nat → Nat

/-- What the spec asks of the parameters: `RESET_PC` is an `XLEN`-bit multiple of `IALIGN/8`
(`spec/10_state.md` R50). -/
def Config.wf (c : Config) : Bool :=
  c.resetPc.toNat < 2 ^ c.xlen.bits && c.resetPc.toNat % c.isa.ialignBytes == 0

end Sys2Proof
end

