-- ==== Sys2Proof/Syntax.lean ====
section
/-! DEFINITION. The instructions, one constructor for each mnemonic of `spec/opcode_table.json`.
An operand is the field of the encoding, unscaled: `imm` of a branch is `imm[12:1]`, of `jal`
`imm[20:1]`, of a 16-bit form the `imm` of Table B.6 (`spec/30_encoding.md` R110 to R117, R127,
R128). -/

namespace Sys2Proof

/-- A rounding mode (`spec/42_rvfd.md` R231). -/
inductive RoundMode where
  | rne
  | rtz
  | rdn
  | rup
  | rmm
deriving DecidableEq, Repr

/-- The `rm` field of an instruction: a mode, or `DYN`. The codes 5 and 6 name nothing
(`spec/30_encoding.md` R118). -/
inductive RmField where
  | rne
  | rtz
  | rdn
  | rup
  | rmm
  | dyn
deriving DecidableEq, Repr

/-- The instructions of Tables B.1, B.2, B.3, B.5, B.6 and B.8. -/
inductive Instr where
  -- Table B.1: RV32I (`spec/40_rv32i.md`)
  /-- `lb`, R152. -/
  | lb (rd rs1 : Reg) (imm : BitVec 12)
  /-- `lh`, R153. -/
  | lh (rd rs1 : Reg) (imm : BitVec 12)
  /-- `lw`, R154. -/
  | lw (rd rs1 : Reg) (imm : BitVec 12)
  /-- `lbu`, R155. -/
  | lbu (rd rs1 : Reg) (imm : BitVec 12)
  /-- `lhu`, R156. -/
  | lhu (rd rs1 : Reg) (imm : BitVec 12)
  /-- `addi`, R157. -/
  | addi (rd rs1 : Reg) (imm : BitVec 12)
  /-- `slli`, R158. -/
  | slli (rd rs1 : Reg) (shamt : BitVec 6)
  /-- `slti`, R159. -/
  | slti (rd rs1 : Reg) (imm : BitVec 12)
  /-- `sltiu`, R160. -/
  | sltiu (rd rs1 : Reg) (imm : BitVec 12)
  /-- `xori`, R161. -/
  | xori (rd rs1 : Reg) (imm : BitVec 12)
  /-- `srli`, R162. -/
  | srli (rd rs1 : Reg) (shamt : BitVec 6)
  /-- `srai`, R163. -/
  | srai (rd rs1 : Reg) (shamt : BitVec 6)
  /-- `ori`, R164. -/
  | ori (rd rs1 : Reg) (imm : BitVec 12)
  /-- `andi`, R165. -/
  | andi (rd rs1 : Reg) (imm : BitVec 12)
  /-- `auipc`, R166. -/
  | auipc (rd : Reg) (upimm : BitVec 20)
  /-- `sb`, R167. -/
  | sb (rs2 rs1 : Reg) (imm : BitVec 12)
  /-- `sh`, R168. -/
  | sh (rs2 rs1 : Reg) (imm : BitVec 12)
  /-- `sw`, R169. -/
  | sw (rs2 rs1 : Reg) (imm : BitVec 12)
  /-- `add`, R170. -/
  | add (rd rs1 rs2 : Reg)
  /-- `sub`, R171. -/
  | sub (rd rs1 rs2 : Reg)
  /-- `sll`, R172. -/
  | sll (rd rs1 rs2 : Reg)
  /-- `slt`, R173. -/
  | slt (rd rs1 rs2 : Reg)
  /-- `sltu`, R174. -/
  | sltu (rd rs1 rs2 : Reg)
  /-- `xor`, R175. -/
  | xor (rd rs1 rs2 : Reg)
  /-- `srl`, R176. -/
  | srl (rd rs1 rs2 : Reg)
  /-- `sra`, R177. -/
  | sra (rd rs1 rs2 : Reg)
  /-- `or`, R178. -/
  | or (rd rs1 rs2 : Reg)
  /-- `and`, R179. -/
  | and (rd rs1 rs2 : Reg)
  /-- `lui`, R180. -/
  | lui (rd : Reg) (upimm : BitVec 20)
  /-- `beq`, R181. -/
  | beq (rs1 rs2 : Reg) (imm : BitVec 12)
  /-- `bne`, R182. -/
  | bne (rs1 rs2 : Reg) (imm : BitVec 12)
  /-- `blt`, R183. -/
  | blt (rs1 rs2 : Reg) (imm : BitVec 12)
  /-- `bge`, R184. -/
  | bge (rs1 rs2 : Reg) (imm : BitVec 12)
  /-- `bltu`, R185. -/
  | bltu (rs1 rs2 : Reg) (imm : BitVec 12)
  /-- `bgeu`, R186. -/
  | bgeu (rs1 rs2 : Reg) (imm : BitVec 12)
  /-- `jalr`, R187. -/
  | jalr (rd rs1 : Reg) (imm : BitVec 12)
  /-- `jal`, R188. -/
  | jal (rd : Reg) (imm : BitVec 20)
  -- Table B.2: RV64I (`spec/41_rv64i.md`)
  /-- `ld`, R201. -/
  | ld (rd rs1 : Reg) (imm : BitVec 12)
  /-- `lwu`, R202. -/
  | lwu (rd rs1 : Reg) (imm : BitVec 12)
  /-- `addiw`, R203. -/
  | addiw (rd rs1 : Reg) (imm : BitVec 12)
  /-- `slliw`, R204. -/
  | slliw (rd rs1 : Reg) (shamt : BitVec 5)
  /-- `srliw`, R205. -/
  | srliw (rd rs1 : Reg) (shamt : BitVec 5)
  /-- `sraiw`, R206. -/
  | sraiw (rd rs1 : Reg) (shamt : BitVec 5)
  /-- `sd`, R207. -/
  | sd (rs2 rs1 : Reg) (imm : BitVec 12)
  /-- `addw`, R208. -/
  | addw (rd rs1 rs2 : Reg)
  /-- `subw`, R209. -/
  | subw (rd rs1 rs2 : Reg)
  /-- `sllw`, R210. -/
  | sllw (rd rs1 rs2 : Reg)
  /-- `srlw`, R211. -/
  | srlw (rd rs1 rs2 : Reg)
  /-- `sraw`, R212. -/
  | sraw (rd rs1 rs2 : Reg)
  -- Table B.3: RVF/D (`spec/42_rvfd.md`)
  /-- `fmadd.s`, R240. -/
  | fmaddS (fd fs1 fs2 fs3 : Reg) (rm : RmField)
  /-- `fmadd.d`, R240. -/
  | fmaddD (fd fs1 fs2 fs3 : Reg) (rm : RmField)
  /-- `fmsub.s`, R241. -/
  | fmsubS (fd fs1 fs2 fs3 : Reg) (rm : RmField)
  /-- `fmsub.d`, R241. -/
  | fmsubD (fd fs1 fs2 fs3 : Reg) (rm : RmField)
  /-- `fnmsub.s`, R242. -/
  | fnmsubS (fd fs1 fs2 fs3 : Reg) (rm : RmField)
  /-- `fnmsub.d`, R242. -/
  | fnmsubD (fd fs1 fs2 fs3 : Reg) (rm : RmField)
  /-- `fnmadd.s`, R243. -/
  | fnmaddS (fd fs1 fs2 fs3 : Reg) (rm : RmField)
  /-- `fnmadd.d`, R243. -/
  | fnmaddD (fd fs1 fs2 fs3 : Reg) (rm : RmField)
  /-- `fadd.s`, R244. -/
  | faddS (fd fs1 fs2 : Reg) (rm : RmField)
  /-- `fadd.d`, R244. -/
  | faddD (fd fs1 fs2 : Reg) (rm : RmField)
  /-- `fsub.s`, R245. -/
  | fsubS (fd fs1 fs2 : Reg) (rm : RmField)
  /-- `fsub.d`, R245. -/
  | fsubD (fd fs1 fs2 : Reg) (rm : RmField)
  /-- `fmul.s`, R246. -/
  | fmulS (fd fs1 fs2 : Reg) (rm : RmField)
  /-- `fmul.d`, R246. -/
  | fmulD (fd fs1 fs2 : Reg) (rm : RmField)
  /-- `fdiv.s`, R247. -/
  | fdivS (fd fs1 fs2 : Reg) (rm : RmField)
  /-- `fdiv.d`, R247. -/
  | fdivD (fd fs1 fs2 : Reg) (rm : RmField)
  /-- `fsqrt.s`, R248. -/
  | fsqrtS (fd fs1 : Reg) (rm : RmField)
  /-- `fsqrt.d`, R248. -/
  | fsqrtD (fd fs1 : Reg) (rm : RmField)
  /-- `fsgnj.s`, R249. -/
  | fsgnjS (fd fs1 fs2 : Reg)
  /-- `fsgnj.d`, R249. -/
  | fsgnjD (fd fs1 fs2 : Reg)
  /-- `fsgnjn.s`, R250. -/
  | fsgnjnS (fd fs1 fs2 : Reg)
  /-- `fsgnjn.d`, R250. -/
  | fsgnjnD (fd fs1 fs2 : Reg)
  /-- `fsgnjx.s`, R251. -/
  | fsgnjxS (fd fs1 fs2 : Reg)
  /-- `fsgnjx.d`, R251. -/
  | fsgnjxD (fd fs1 fs2 : Reg)
  /-- `fmin.s`, R252. -/
  | fminS (fd fs1 fs2 : Reg)
  /-- `fmin.d`, R252. -/
  | fminD (fd fs1 fs2 : Reg)
  /-- `fmax.s`, R253. -/
  | fmaxS (fd fs1 fs2 : Reg)
  /-- `fmax.d`, R253. -/
  | fmaxD (fd fs1 fs2 : Reg)
  /-- `feq.s`, R254. -/
  | feqS (rd fs1 fs2 : Reg)
  /-- `feq.d`, R254. -/
  | feqD (rd fs1 fs2 : Reg)
  /-- `flt.s`, R255. -/
  | fltS (rd fs1 fs2 : Reg)
  /-- `flt.d`, R255. -/
  | fltD (rd fs1 fs2 : Reg)
  /-- `fle.s`, R256. -/
  | fleS (rd fs1 fs2 : Reg)
  /-- `fle.d`, R256. -/
  | fleD (rd fs1 fs2 : Reg)
  /-- `fclass.s`, R257. -/
  | fclassS (rd fs1 : Reg)
  /-- `fclass.d`, R257. -/
  | fclassD (rd fs1 : Reg)
  /-- `flw`, R258. -/
  | flw (fd rs1 : Reg) (imm : BitVec 12)
  /-- `fsw`, R259. -/
  | fsw (fs2 rs1 : Reg) (imm : BitVec 12)
  /-- `fcvt.w.s`, R260. -/
  | fcvtWS (rd fs1 : Reg) (rm : RmField)
  /-- `fcvt.wu.s`, R261. -/
  | fcvtWuS (rd fs1 : Reg) (rm : RmField)
  /-- `fcvt.s.w`, R262. -/
  | fcvtSW (fd rs1 : Reg) (rm : RmField)
  /-- `fcvt.s.wu`, R263. -/
  | fcvtSWu (fd rs1 : Reg) (rm : RmField)
  /-- `fmv.x.w`, R264. -/
  | fmvXW (rd fs1 : Reg)
  /-- `fmv.w.x`, R265. -/
  | fmvWX (fd rs1 : Reg)
  /-- `fld`, R266. -/
  | fld (fd rs1 : Reg) (imm : BitVec 12)
  /-- `fsd`, R267. -/
  | fsd (fs2 rs1 : Reg) (imm : BitVec 12)
  /-- `fcvt.w.d`, R268. -/
  | fcvtWD (rd fs1 : Reg) (rm : RmField)
  /-- `fcvt.wu.d`, R269. -/
  | fcvtWuD (rd fs1 : Reg) (rm : RmField)
  /-- `fcvt.d.w`, R270. -/
  | fcvtDW (fd rs1 : Reg) (rm : RmField)
  /-- `fcvt.d.wu`, R271. -/
  | fcvtDWu (fd rs1 : Reg) (rm : RmField)
  /-- `fcvt.s.d`, R272. -/
  | fcvtSD (fd fs1 : Reg) (rm : RmField)
  /-- `fcvt.d.s`, R273. -/
  | fcvtDS (fd fs1 : Reg) (rm : RmField)
  -- Table B.5: RVM (`spec/43_rvm.md`)
  /-- `mul`, R311. -/
  | mul (rd rs1 rs2 : Reg)
  /-- `mulh`, R312. -/
  | mulh (rd rs1 rs2 : Reg)
  /-- `mulhsu`, R313. -/
  | mulhsu (rd rs1 rs2 : Reg)
  /-- `mulhu`, R314. -/
  | mulhu (rd rs1 rs2 : Reg)
  /-- `div`, R315. -/
  | div (rd rs1 rs2 : Reg)
  /-- `divu`, R316. -/
  | divu (rd rs1 rs2 : Reg)
  /-- `rem`, R317. -/
  | rem (rd rs1 rs2 : Reg)
  /-- `remu`, R318. -/
  | remu (rd rs1 rs2 : Reg)
  -- Table B.6: RVC (`spec/44_rvc.md`)
  /-- `c.addi4spn`, R332. -/
  | cAddi4spn (rd : CReg) (imm : BitVec 8)
  /-- `c.fld`, R333. -/
  | cFld (fd rs1 : CReg) (imm : BitVec 5)
  /-- `c.lw`, R334. -/
  | cLw (rd rs1 : CReg) (imm : BitVec 5)
  /-- `c.flw`, R335. -/
  | cFlw (fd rs1 : CReg) (imm : BitVec 5)
  /-- `c.fsd`, R336. -/
  | cFsd (fs2 rs1 : CReg) (imm : BitVec 5)
  /-- `c.sw`, R337. -/
  | cSw (rs2 rs1 : CReg) (imm : BitVec 5)
  /-- `c.fsw`, R338. -/
  | cFsw (fs2 rs1 : CReg) (imm : BitVec 5)
  /-- `c.nop`, R339. -/
  | cNop
  /-- `c.addi`, R340. -/
  | cAddi (rd : Reg) (imm : BitVec 6)
  /-- `c.jal`, R341. -/
  | cJal (imm : BitVec 11)
  /-- `c.li`, R342. -/
  | cLi (rd : Reg) (imm : BitVec 6)
  /-- `c.lui`, R343. -/
  | cLui (rd : Reg) (imm : BitVec 6)
  /-- `c.addi16sp`, R344. -/
  | cAddi16sp (imm : BitVec 6)
  /-- `c.srli`, R345. -/
  | cSrli (rd : CReg) (shamt : BitVec 5)
  /-- `c.srai`, R346. -/
  | cSrai (rd : CReg) (shamt : BitVec 5)
  /-- `c.andi`, R347. -/
  | cAndi (rd : CReg) (imm : BitVec 6)
  /-- `c.sub`, R348. -/
  | cSub (rd rs2 : CReg)
  /-- `c.xor`, R349. -/
  | cXor (rd rs2 : CReg)
  /-- `c.or`, R350. -/
  | cOr (rd rs2 : CReg)
  /-- `c.and`, R351. -/
  | cAnd (rd rs2 : CReg)
  /-- `c.j`, R352. -/
  | cJ (imm : BitVec 11)
  /-- `c.beqz`, R353. -/
  | cBeqz (rs1 : CReg) (imm : BitVec 8)
  /-- `c.bnez`, R354. -/
  | cBnez (rs1 : CReg) (imm : BitVec 8)
  /-- `c.slli`, R355. -/
  | cSlli (rd : Reg) (shamt : BitVec 5)
  /-- `c.fldsp`, R356. -/
  | cFldsp (fd : Reg) (imm : BitVec 6)
  /-- `c.lwsp`, R357. -/
  | cLwsp (rd : Reg) (imm : BitVec 6)
  /-- `c.flwsp`, R358. -/
  | cFlwsp (fd : Reg) (imm : BitVec 6)
  /-- `c.jr`, R359. -/
  | cJr (rs1 : Reg)
  /-- `c.mv`, R360. -/
  | cMv (rd rs2 : Reg)
  /-- `c.ebreak`, R361. -/
  | cEbreak
  /-- `c.jalr`, R362. -/
  | cJalr (rs1 : Reg)
  /-- `c.add`, R363. -/
  | cAdd (rd rs2 : Reg)
  /-- `c.fsdsp`, R364. -/
  | cFsdsp (fs2 : Reg) (imm : BitVec 6)
  /-- `c.swsp`, R365. -/
  | cSwsp (rs2 : Reg) (imm : BitVec 6)
  /-- `c.fswsp`, R366. -/
  | cFswsp (fs2 : Reg) (imm : BitVec 6)
  -- Table B.8: privileged and CSR (`spec/46_priv_csr.md`)
  /-- `ecall`, R441. -/
  | ecall
  /-- `ebreak`, R442. -/
  | ebreak
  /-- `uret`, R443. -/
  | uret
  /-- `sret`, R444. -/
  | sret
  /-- `mret`, R445. -/
  | mret
  /-- `crrw`, R446. -/
  | crrw (rd : Reg) (csr : BitVec 12) (rs1 : Reg)
  /-- `crrs`, R447. -/
  | crrs (rd : Reg) (csr : BitVec 12) (rs1 : Reg)
  /-- `crrc`, R448. -/
  | crrc (rd : Reg) (csr : BitVec 12) (rs1 : Reg)
  /-- `crrwi`, R449. -/
  | crrwi (rd : Reg) (csr : BitVec 12) (uimm : BitVec 5)
  /-- `crrsi`, R450. -/
  | crrsi (rd : Reg) (csr : BitVec 12) (uimm : BitVec 5)
  /-- `crrci`, R451. -/
  | crrci (rd : Reg) (csr : BitVec 12) (uimm : BitVec 5)
deriving DecidableEq, Repr

end Sys2Proof
end

