-- ==== Sys2Proof/WellFormed.lean ====
section
/-! DEFINITION. Which instructions a machine has: the extension and `XLEN` an instruction needs and
the side conditions on its fields (`spec/30_encoding.md` R121, R123, R129, R130, R135). -/

namespace Sys2Proof

/-- Why a term of `Instr` is no instruction of a machine. -/
inductive IllFormed where
  /-- Table B.2 exists only when `XLEN = 64` (R135 (a)). -/
  | needsXlen64
  /-- Table B.5 needs `M` (R123). -/
  | needsM
  /-- Single precision needs `F` (R119, `spec/42_rvfd.md` R230 (a)). -/
  | needsF
  /-- Double precision needs `D` (R119, `spec/42_rvfd.md` R230 (a)). -/
  | needsD
  /-- Table B.6 needs `C` (`spec/44_rvc.md` R330 (a)). -/
  | needsC
  /-- Table B.8 needs `S` (`spec/46_priv_csr.md` R440 (a)). -/
  | needsS
  /-- `instr[25] = 1` in a shift of 32-bit registers (R123, R135 (b)). -/
  | shamtTooLarge
  /-- `c.addi4spn`, `c.lui`, `c.addi16sp` with a zero immediate (R130 (b), (c)). -/
  | zeroImmediate
  /-- A register field that belongs to another row or to none: `c.lui` with `x2`, `c.lwsp`, `c.jr`,
  `c.jalr` with `x0`, `c.mv`, `c.add` with `rs2 = 0` (R129, R130 (f), (g)). -/
  | reservedRegister
  /-- `c.addi` with `rd = 0` and `imm = 0` is the row of `c.nop` (R129). -/
  | nopForm
deriving DecidableEq, Repr

/-- The complaint `why`, unless the condition holds. -/
def IllFormed.unless (ok : Bool) (why : IllFormed) : Option IllFormed :=
  if ok then none else some why

/-- A 6-bit shift amount that the registers allow: any when `XLEN = 64`, below 32 when `XLEN = 32`
(`spec/30_encoding.md` R115). -/
def shamtFits (x : Xlen) (shamt : BitVec 6) : Bool :=
  match x with
  | .x32 => shamt.toNat < 32
  | .x64 => true

/-- What keeps a term of `Instr` from being an instruction of the machine, if anything does. -/
def Instr.illFormed (isa : Isa) (i : Instr) : Option IllFormed :=
  match i with
  | .lb .. | .lh .. | .lw .. | .lbu .. | .lhu .. | .addi .. | .slti .. | .sltiu .. | .xori ..
  | .ori .. | .andi .. | .auipc .. | .sb .. | .sh .. | .sw .. | .add .. | .sub .. | .sll ..
  | .slt .. | .sltu .. | .xor .. | .srl .. | .sra .. | .or .. | .and .. | .lui .. | .beq ..
  | .bne .. | .blt .. | .bge .. | .bltu .. | .bgeu .. | .jalr .. | .jal .. => none
  | .slli _ _ shamt => IllFormed.unless (shamtFits isa.xlen shamt) .shamtTooLarge
  | .srli _ _ shamt => IllFormed.unless (shamtFits isa.xlen shamt) .shamtTooLarge
  | .srai _ _ shamt => IllFormed.unless (shamtFits isa.xlen shamt) .shamtTooLarge
  | .ld .. | .lwu .. | .addiw .. | .slliw .. | .srliw .. | .sraiw .. | .sd .. | .addw ..
  | .subw .. | .sllw .. | .srlw .. | .sraw .. => IllFormed.unless (isa.xlen == .x64) .needsXlen64
  | .fmaddS .. | .fmsubS .. | .fnmsubS .. | .fnmaddS .. | .faddS .. | .fsubS .. | .fmulS ..
  | .fdivS .. | .fsqrtS .. | .fsgnjS .. | .fsgnjnS .. | .fsgnjxS .. | .fminS .. | .fmaxS ..
  | .feqS .. | .fltS .. | .fleS .. | .fclassS .. | .flw .. | .fsw .. | .fcvtWS .. | .fcvtWuS ..
  | .fcvtSW .. | .fcvtSWu .. | .fmvXW .. | .fmvWX .. => IllFormed.unless isa.hasF .needsF
  | .fmaddD .. | .fmsubD .. | .fnmsubD .. | .fnmaddD .. | .faddD .. | .fsubD .. | .fmulD ..
  | .fdivD .. | .fsqrtD .. | .fsgnjD .. | .fsgnjnD .. | .fsgnjxD .. | .fminD .. | .fmaxD ..
  | .feqD .. | .fltD .. | .fleD .. | .fclassD .. | .fld .. | .fsd .. | .fcvtWD .. | .fcvtWuD ..
  | .fcvtDW .. | .fcvtDWu .. | .fcvtSD .. | .fcvtDS .. => IllFormed.unless isa.hasD .needsD
  | .mul .. | .mulh .. | .mulhsu .. | .mulhu .. | .div .. | .divu .. | .rem .. | .remu .. => IllFormed.unless isa.m .needsM
  | .ecall | .ebreak | .uret | .sret | .mret | .crrw .. | .crrs .. | .crrc .. | .crrwi ..
  | .crrsi .. | .crrci .. => IllFormed.unless isa.s .needsS
  | .cLw .. | .cSw .. | .cNop | .cJal .. | .cLi .. | .cSrli .. | .cSrai .. | .cAndi ..
  | .cSub .. | .cXor .. | .cOr .. | .cAnd .. | .cJ .. | .cBeqz .. | .cBnez .. | .cSlli ..
  | .cEbreak | .cSwsp .. => IllFormed.unless isa.hasC .needsC
  | .cFlw .. | .cFsw .. | .cFlwsp .. | .cFswsp .. =>
    (IllFormed.unless isa.hasC .needsC).or (IllFormed.unless isa.hasF .needsF)
  | .cFld .. | .cFsd .. | .cFldsp .. | .cFsdsp .. =>
    (IllFormed.unless isa.hasC .needsC).or (IllFormed.unless isa.hasD .needsD)
  | .cAddi4spn _ imm =>
    (IllFormed.unless isa.hasC .needsC).or (IllFormed.unless (imm != 0#8) .zeroImmediate)
  | .cAddi rd imm =>
    (IllFormed.unless isa.hasC .needsC).or (IllFormed.unless (!(rd == 0#5 && imm == 0#6)) .nopForm)
  | .cAddi16sp imm =>
    (IllFormed.unless isa.hasC .needsC).or (IllFormed.unless (imm != 0#6) .zeroImmediate)
  | .cLwsp rd _ =>
    (IllFormed.unless isa.hasC .needsC).or (IllFormed.unless (rd != 0#5) .reservedRegister)
  | .cJr rs1 =>
    (IllFormed.unless isa.hasC .needsC).or (IllFormed.unless (rs1 != 0#5) .reservedRegister)
  | .cJalr rs1 =>
    (IllFormed.unless isa.hasC .needsC).or (IllFormed.unless (rs1 != 0#5) .reservedRegister)
  | .cMv _ rs2 =>
    (IllFormed.unless isa.hasC .needsC).or (IllFormed.unless (rs2 != 0#5) .reservedRegister)
  | .cAdd _ rs2 =>
    (IllFormed.unless isa.hasC .needsC).or (IllFormed.unless (rs2 != 0#5) .reservedRegister)
  | .cLui rd imm =>
    ((IllFormed.unless isa.hasC .needsC).or (IllFormed.unless (rd != 2#5) .reservedRegister)).or
      (IllFormed.unless (imm != 0#6) .zeroImmediate)

/-- The term is an instruction of the machine: a row of the opcode table applies to its encoding
(`spec/30_encoding.md` R121). -/
def Instr.wf (isa : Isa) (i : Instr) : Bool := (i.illFormed isa).isNone

end Sys2Proof
end

