-- ==== Sys2Proof/Decode.lean ====
section
/-! DEFINITION. Decoding (`spec/30_encoding.md` R101 to R131, R135, R136) and its inverse, the
encoder. -/

namespace Sys2Proof

/-! ## Fetched instructions -/

/-- A fetched instruction: one 16-bit parcel, or a 32-bit word (`spec/20_memory.md` R75). -/
inductive Fetched where
  | half (h : BitVec 16)
  | full (w : BitVec 32)
deriving DecidableEq, Repr

/-- `ilen` (`spec/00_scope.md` R18). -/
def Fetched.ilen : Fetched → Nat
  | .half _ => 2
  | .full _ => 4

/-- The instruction bits, zero-extended: the `info` of `IllegalInstruction`
(`spec/60_exceptions.md` R470, code 2). -/
def Fetched.bits : Fetched → Word
  | .half h => h.setWidth 64
  | .full w => w.setWidth 64

/-- Why no row of the opcode table accepts a fetched instruction. -/
inductive Reject where
  /-- The bytes end before the instruction does (only a byte list can; memory never ends). -/
  | truncated
  /-- An `op` that R120 does not list. -/
  | unlistedOpcode
  /-- A minor opcode that R123, R129 or R136 does not list. -/
  | unlistedMinor
  /-- `fmt` is `10` or `11` (R119). -/
  | reservedFormat
  /-- `rm` is 5 or 6 (R118). -/
  | reservedRoundingMode
  /-- The bits are a row of another machine, or break a side condition. -/
  | illFormed (why : IllFormed)
deriving DecidableEq, Repr

/-! ## Fields of a 32-bit word (R102 to R118) -/

/-- The code of an `rm` field (R118). -/
def RmField.code : RmField → BitVec 3
  | .rne => 0#3
  | .rtz => 1#3
  | .rdn => 2#3
  | .rup => 3#3
  | .rmm => 4#3
  | .dyn => 7#3

/-- The `rm` field of a code; 5 and 6 are reserved (R118). -/
def RmField.ofCode (c : BitVec 3) : Option RmField :=
  match c with
  | 0#3 => some .rne
  | 1#3 => some .rtz
  | 2#3 => some .rdn
  | 3#3 => some .rup
  | 4#3 => some .rmm
  | 7#3 => some .dyn
  | _ => none

/-- `instr[6:0]`. -/
def fOp (w : BitVec 32) : BitVec 7 := w.extractLsb' 0 7

/-- `rd`, also `fd`: `instr[11:7]`. -/
def fRd (w : BitVec 32) : Reg := w.extractLsb' 7 5

/-- `funct3`, also `rm`: `instr[14:12]`. -/
def fFunct3 (w : BitVec 32) : BitVec 3 := w.extractLsb' 12 3

/-- `rs1`, also `fs1` and the `uimm` of a CSR instruction: `instr[19:15]`. -/
def fRs1 (w : BitVec 32) : Reg := w.extractLsb' 15 5

/-- `rs2`, also `fs2` and a 5-bit shift amount: `instr[24:20]`. -/
def fRs2 (w : BitVec 32) : Reg := w.extractLsb' 20 5

/-- `funct7`: `instr[31:25]`. -/
def fFunct7 (w : BitVec 32) : BitVec 7 := w.extractLsb' 25 7

/-- `fmt`, the `funct2` of R4-type: `instr[26:25]` (R119). -/
def fFmt (w : BitVec 32) : BitVec 2 := w.extractLsb' 25 2

/-- `fs3`: `instr[31:27]` (R109). -/
def fFs3 (w : BitVec 32) : Reg := w.extractLsb' 27 5

/-- The I-type immediate and the CSR number: `instr[31:20]` (R110, R117). -/
def fImmI (w : BitVec 32) : BitVec 12 := w.extractLsb' 20 12

/-- The fixed upper bits of a shift by an immediate: `instr[31:26]` (R115). -/
def fShiftKind (w : BitVec 32) : BitVec 6 := w.extractLsb' 26 6

/-- The 6-bit shift amount: `instr[25:20]` (R115). -/
def fShamt (w : BitVec 32) : BitVec 6 := w.extractLsb' 20 6

/-- The S-type immediate (R111). -/
def fImmS (w : BitVec 32) : BitVec 12 := w.extractLsb' 25 7 ++ w.extractLsb' 7 5

/-- `imm[12:1]` of a branch (R112). -/
def fImmB (w : BitVec 32) : BitVec 12 :=
  w.extractLsb' 31 1 ++ w.extractLsb' 7 1 ++ w.extractLsb' 25 6 ++ w.extractLsb' 8 4

/-- `upimm`: `instr[31:12]` (R113). -/
def fImmU (w : BitVec 32) : BitVec 20 := w.extractLsb' 12 20

/-- `imm[20:1]` of `jal` (R114). -/
def fImmJ (w : BitVec 32) : BitVec 20 :=
  w.extractLsb' 31 1 ++ w.extractLsb' 12 8 ++ w.extractLsb' 20 1 ++ w.extractLsb' 21 10

/-! ## Fields of a 16-bit value (R126 to R128) -/

/-- `instr[1:0]`. -/
def cOp (h : BitVec 16) : BitVec 2 := h.extractLsb' 0 2

/-- `instr[15:13]`. -/
def cFunct3 (h : BitVec 16) : BitVec 3 := h.extractLsb' 13 3

/-- `instr[12]`. -/
def cBit12 (h : BitVec 16) : BitVec 1 := h.extractLsb' 12 1

/-- `rd` or `rs1`, 5 bits: `instr[11:7]`. -/
def cRd (h : BitVec 16) : Reg := h.extractLsb' 7 5

/-- `rs2`, 5 bits: `instr[6:2]`. -/
def cRs2 (h : BitVec 16) : Reg := h.extractLsb' 2 5

/-- `rs1'`, or `rd'` of CB' and CS': `instr[9:7]` (`spec/44_rvc.md` R331). -/
def cHighReg (h : BitVec 16) : CReg := h.extractLsb' 7 3

/-- `rd'` of CIW and CL, `rs2'` of CS and CS': `instr[4:2]` (`spec/44_rvc.md` R331). -/
def cLowReg (h : BitVec 16) : CReg := h.extractLsb' 2 3

/-- `instr[11:10]`. -/
def cFunct2b (h : BitVec 16) : BitVec 2 := h.extractLsb' 10 2

/-- `funct2`: `instr[6:5]`. -/
def cFunct2 (h : BitVec 16) : BitVec 2 := h.extractLsb' 5 2

/-- The 6-bit immediate of `c.addi`, `c.li`, `c.lui`, `c.andi`. -/
def cImm6 (h : BitVec 16) : BitVec 6 := h.extractLsb' 12 1 ++ h.extractLsb' 2 5

/-- The 5-bit shift amount. -/
def cShamt (h : BitVec 16) : BitVec 5 := h.extractLsb' 2 5

/-- The immediate of `c.addi4spn`. -/
def cImm4spn (h : BitVec 16) : BitVec 8 :=
  h.extractLsb' 7 4 ++ h.extractLsb' 11 2 ++ h.extractLsb' 5 1 ++ h.extractLsb' 6 1

/-- The immediate of `c.lw`, `c.sw`, `c.flw`, `c.fsw`. -/
def cImmW (h : BitVec 16) : BitVec 5 :=
  h.extractLsb' 5 1 ++ h.extractLsb' 10 3 ++ h.extractLsb' 6 1

/-- The immediate of `c.fld`, `c.fsd`. -/
def cImmD (h : BitVec 16) : BitVec 5 := h.extractLsb' 5 2 ++ h.extractLsb' 10 3

/-- The immediate of `c.addi16sp`. -/
def cImm16sp (h : BitVec 16) : BitVec 6 :=
  h.extractLsb' 12 1 ++ h.extractLsb' 3 2 ++ h.extractLsb' 5 1 ++ h.extractLsb' 2 1
    ++ h.extractLsb' 6 1

/-- The immediate of `c.jal`, `c.j`. -/
def cImmJ (h : BitVec 16) : BitVec 11 :=
  h.extractLsb' 12 1 ++ h.extractLsb' 8 1 ++ h.extractLsb' 9 2 ++ h.extractLsb' 6 1
    ++ h.extractLsb' 7 1 ++ h.extractLsb' 2 1 ++ h.extractLsb' 11 1 ++ h.extractLsb' 3 3

/-- The immediate of `c.beqz`, `c.bnez`. -/
def cImmB (h : BitVec 16) : BitVec 8 :=
  h.extractLsb' 12 1 ++ h.extractLsb' 5 2 ++ h.extractLsb' 2 1 ++ h.extractLsb' 10 2
    ++ h.extractLsb' 3 2

/-- The immediate of `c.lwsp`, `c.flwsp`. -/
def cImmWsp (h : BitVec 16) : BitVec 6 :=
  h.extractLsb' 2 2 ++ h.extractLsb' 12 1 ++ h.extractLsb' 4 3

/-- The immediate of `c.fldsp`. -/
def cImmDsp (h : BitVec 16) : BitVec 6 :=
  h.extractLsb' 2 3 ++ h.extractLsb' 12 1 ++ h.extractLsb' 5 2

/-- The immediate of `c.swsp`, `c.fswsp`. -/
def cImmSwsp (h : BitVec 16) : BitVec 6 := h.extractLsb' 7 2 ++ h.extractLsb' 9 4

/-- The immediate of `c.fsdsp`. -/
def cImmSdsp (h : BitVec 16) : BitVec 6 := h.extractLsb' 7 3 ++ h.extractLsb' 10 3

/-! ## The opcode map -/

/-- An instruction with an `rm` field: a reserved code is no instruction (R118). -/
def withRmField (w : BitVec 32) (k : RmField → Instr) : Except Reject Instr :=
  match RmField.ofCode (fFunct3 w) with
  | some rm => .ok (k rm)
  | none => .error .reservedRoundingMode

/-- A fused multiply-add (R4-type): `fmt` selects the precision (R109, R119). -/
def decodeR4 (w : BitVec 32) (single double : Reg → Reg → Reg → Reg → RmField → Instr) :
    Except Reject Instr :=
  match fFmt w with
  | 0b00#2 => withRmField w (single (fRd w) (fRs1 w) (fRs2 w) (fFs3 w))
  | 0b01#2 => withRmField w (double (fRd w) (fRs1 w) (fRs2 w) (fFs3 w))
  | _ => .error .reservedFormat

/-- A two-operand computation with rounding (R136). -/
def decodeFpRR (w : BitVec 32) (k : Reg → Reg → Reg → RmField → Instr) : Except Reject Instr :=
  withRmField w (k (fRd w) (fRs1 w) (fRs2 w))

/-- Sign injection: `funct3` selects the row (R136). -/
def decodeSgnj (w : BitVec 32) (j jn jx : Reg → Reg → Reg → Instr) : Except Reject Instr :=
  match fFunct3 w with
  | 0b000#3 => .ok (j (fRd w) (fRs1 w) (fRs2 w))
  | 0b001#3 => .ok (jn (fRd w) (fRs1 w) (fRs2 w))
  | 0b010#3 => .ok (jx (fRd w) (fRs1 w) (fRs2 w))
  | _ => .error .unlistedMinor

/-- Minimum and maximum (R136). -/
def decodeMinMax (w : BitVec 32) (mn mx : Reg → Reg → Reg → Instr) : Except Reject Instr :=
  match fFunct3 w with
  | 0b000#3 => .ok (mn (fRd w) (fRs1 w) (fRs2 w))
  | 0b001#3 => .ok (mx (fRd w) (fRs1 w) (fRs2 w))
  | _ => .error .unlistedMinor

/-- Comparisons (R136). -/
def decodeCmp (w : BitVec 32) (le lt eq : Reg → Reg → Reg → Instr) : Except Reject Instr :=
  match fFunct3 w with
  | 0b000#3 => .ok (le (fRd w) (fRs1 w) (fRs2 w))
  | 0b001#3 => .ok (lt (fRd w) (fRs1 w) (fRs2 w))
  | 0b010#3 => .ok (eq (fRd w) (fRs1 w) (fRs2 w))
  | _ => .error .unlistedMinor

/-- A row with rounding whose `rs2` field is the fixed code `c` (R136). -/
def decodeFp1 (w : BitVec 32) (c : Reg) (k : Reg → Reg → RmField → Instr) :
    Except Reject Instr :=
  if fRs2 w = c then withRmField w (k (fRd w) (fRs1 w)) else .error .unlistedMinor

/-- A pair of conversions told apart by the `rs2` field: 0 signed, 1 unsigned (R136). -/
def decodeCvt (w : BitVec 32) (signed unsigned : Reg → Reg → RmField → Instr) :
    Except Reject Instr :=
  match fRs2 w with
  | 0#5 => withRmField w (signed (fRd w) (fRs1 w))
  | 1#5 => withRmField w (unsigned (fRd w) (fRs1 w))
  | _ => .error .unlistedMinor

/-- Op `1010011`, by `funct7 = {f5, fmt}` (R136). -/
def decodeOpFp (w : BitVec 32) : Except Reject Instr :=
  match fFunct7 w with
  | 0b0000000#7 => decodeFpRR w .faddS
  | 0b0000001#7 => decodeFpRR w .faddD
  | 0b0000100#7 => decodeFpRR w .fsubS
  | 0b0000101#7 => decodeFpRR w .fsubD
  | 0b0001000#7 => decodeFpRR w .fmulS
  | 0b0001001#7 => decodeFpRR w .fmulD
  | 0b0001100#7 => decodeFpRR w .fdivS
  | 0b0001101#7 => decodeFpRR w .fdivD
  | 0b0101100#7 => decodeFp1 w 0#5 .fsqrtS
  | 0b0101101#7 => decodeFp1 w 0#5 .fsqrtD
  | 0b0010000#7 => decodeSgnj w .fsgnjS .fsgnjnS .fsgnjxS
  | 0b0010001#7 => decodeSgnj w .fsgnjD .fsgnjnD .fsgnjxD
  | 0b0010100#7 => decodeMinMax w .fminS .fmaxS
  | 0b0010101#7 => decodeMinMax w .fminD .fmaxD
  | 0b1010000#7 => decodeCmp w .fleS .fltS .feqS
  | 0b1010001#7 => decodeCmp w .fleD .fltD .feqD
  | 0b1110000#7 =>
    if fRs2 w = 0#5 then
      match fFunct3 w with
      | 0b000#3 => .ok (.fmvXW (fRd w) (fRs1 w))
      | 0b001#3 => .ok (.fclassS (fRd w) (fRs1 w))
      | _ => .error .unlistedMinor
    else .error .unlistedMinor
  | 0b1110001#7 =>
    if fRs2 w = 0#5 then
      match fFunct3 w with
      | 0b001#3 => .ok (.fclassD (fRd w) (fRs1 w))
      | _ => .error .unlistedMinor
    else .error .unlistedMinor
  | 0b1100000#7 => decodeCvt w .fcvtWS .fcvtWuS
  | 0b1100001#7 => decodeCvt w .fcvtWD .fcvtWuD
  | 0b1101000#7 => decodeCvt w .fcvtSW .fcvtSWu
  | 0b1101001#7 => decodeCvt w .fcvtDW .fcvtDWu
  | 0b1111000#7 =>
    if fRs2 w = 0#5 then
      match fFunct3 w with
      | 0b000#3 => .ok (.fmvWX (fRd w) (fRs1 w))
      | _ => .error .unlistedMinor
    else .error .unlistedMinor
  | 0b0100000#7 => decodeFp1 w 1#5 .fcvtSD
  | 0b0100001#7 => decodeFp1 w 0#5 .fcvtDS
  | _ => .error .unlistedMinor

/-- Op `1110011` (`spec/46_priv_csr.md` R440). -/
def decodeSystem (w : BitVec 32) : Except Reject Instr :=
  match fFunct3 w with
  | 0b000#3 =>
    if fRs1 w = 0#5 ∧ fRd w = 0#5 then
      match fImmI w with
      | 0#12 => .ok .ecall
      | 1#12 => .ok .ebreak
      | 2#12 => .ok .uret
      | 258#12 => .ok .sret
      | 770#12 => .ok .mret
      | _ => .error .unlistedMinor
    else .error .unlistedMinor
  | 0b001#3 => .ok (.crrw (fRd w) (fImmI w) (fRs1 w))
  | 0b010#3 => .ok (.crrs (fRd w) (fImmI w) (fRs1 w))
  | 0b011#3 => .ok (.crrc (fRd w) (fImmI w) (fRs1 w))
  | 0b101#3 => .ok (.crrwi (fRd w) (fImmI w) (fRs1 w))
  | 0b110#3 => .ok (.crrsi (fRd w) (fImmI w) (fRs1 w))
  | 0b111#3 => .ok (.crrci (fRd w) (fImmI w) (fRs1 w))
  | _ => .error .unlistedMinor

/-- Op `0000011` (R120). -/
def decodeLoad (w : BitVec 32) : Except Reject Instr :=
  match fFunct3 w with
  | 0b000#3 => .ok (.lb (fRd w) (fRs1 w) (fImmI w))
  | 0b001#3 => .ok (.lh (fRd w) (fRs1 w) (fImmI w))
  | 0b010#3 => .ok (.lw (fRd w) (fRs1 w) (fImmI w))
  | 0b011#3 => .ok (.ld (fRd w) (fRs1 w) (fImmI w))
  | 0b100#3 => .ok (.lbu (fRd w) (fRs1 w) (fImmI w))
  | 0b101#3 => .ok (.lhu (fRd w) (fRs1 w) (fImmI w))
  | 0b110#3 => .ok (.lwu (fRd w) (fRs1 w) (fImmI w))
  | _ => .error .unlistedMinor

/-- Op `0010011` (R115, R120). -/
def decodeOpImm (w : BitVec 32) : Except Reject Instr :=
  match fFunct3 w with
  | 0b000#3 => .ok (.addi (fRd w) (fRs1 w) (fImmI w))
  | 0b001#3 =>
    match fShiftKind w with
    | 0b000000#6 => .ok (.slli (fRd w) (fRs1 w) (fShamt w))
    | _ => .error .unlistedMinor
  | 0b010#3 => .ok (.slti (fRd w) (fRs1 w) (fImmI w))
  | 0b011#3 => .ok (.sltiu (fRd w) (fRs1 w) (fImmI w))
  | 0b100#3 => .ok (.xori (fRd w) (fRs1 w) (fImmI w))
  | 0b101#3 =>
    match fShiftKind w with
    | 0b000000#6 => .ok (.srli (fRd w) (fRs1 w) (fShamt w))
    | 0b010000#6 => .ok (.srai (fRd w) (fRs1 w) (fShamt w))
    | _ => .error .unlistedMinor
  | 0b110#3 => .ok (.ori (fRd w) (fRs1 w) (fImmI w))
  | 0b111#3 => .ok (.andi (fRd w) (fRs1 w) (fImmI w))
  | _ => .error .unlistedMinor

/-- Op `0011011` (R120). -/
def decodeOpImm32 (w : BitVec 32) : Except Reject Instr :=
  match fFunct3 w with
  | 0b000#3 => .ok (.addiw (fRd w) (fRs1 w) (fImmI w))
  | 0b001#3 =>
    match fFunct7 w with
    | 0b0000000#7 => .ok (.slliw (fRd w) (fRs1 w) (fRs2 w))
    | _ => .error .unlistedMinor
  | 0b101#3 =>
    match fFunct7 w with
    | 0b0000000#7 => .ok (.srliw (fRd w) (fRs1 w) (fRs2 w))
    | 0b0100000#7 => .ok (.sraiw (fRd w) (fRs1 w) (fRs2 w))
    | _ => .error .unlistedMinor
  | _ => .error .unlistedMinor

/-- Op `0110011` (R120). -/
def decodeOp (w : BitVec 32) : Except Reject Instr :=
  match fFunct7 w with
  | 0b0000000#7 =>
    match fFunct3 w with
    | 0b000#3 => .ok (.add (fRd w) (fRs1 w) (fRs2 w))
    | 0b001#3 => .ok (.sll (fRd w) (fRs1 w) (fRs2 w))
    | 0b010#3 => .ok (.slt (fRd w) (fRs1 w) (fRs2 w))
    | 0b011#3 => .ok (.sltu (fRd w) (fRs1 w) (fRs2 w))
    | 0b100#3 => .ok (.xor (fRd w) (fRs1 w) (fRs2 w))
    | 0b101#3 => .ok (.srl (fRd w) (fRs1 w) (fRs2 w))
    | 0b110#3 => .ok (.or (fRd w) (fRs1 w) (fRs2 w))
    | 0b111#3 => .ok (.and (fRd w) (fRs1 w) (fRs2 w))
    | _ => .error .unlistedMinor
  | 0b0100000#7 =>
    match fFunct3 w with
    | 0b000#3 => .ok (.sub (fRd w) (fRs1 w) (fRs2 w))
    | 0b101#3 => .ok (.sra (fRd w) (fRs1 w) (fRs2 w))
    | _ => .error .unlistedMinor
  | 0b0000001#7 =>
    match fFunct3 w with
    | 0b000#3 => .ok (.mul (fRd w) (fRs1 w) (fRs2 w))
    | 0b001#3 => .ok (.mulh (fRd w) (fRs1 w) (fRs2 w))
    | 0b010#3 => .ok (.mulhsu (fRd w) (fRs1 w) (fRs2 w))
    | 0b011#3 => .ok (.mulhu (fRd w) (fRs1 w) (fRs2 w))
    | 0b100#3 => .ok (.div (fRd w) (fRs1 w) (fRs2 w))
    | 0b101#3 => .ok (.divu (fRd w) (fRs1 w) (fRs2 w))
    | 0b110#3 => .ok (.rem (fRd w) (fRs1 w) (fRs2 w))
    | 0b111#3 => .ok (.remu (fRd w) (fRs1 w) (fRs2 w))
    | _ => .error .unlistedMinor
  | _ => .error .unlistedMinor

/-- Op `0111011` (R120). -/
def decodeOp32 (w : BitVec 32) : Except Reject Instr :=
  match fFunct7 w with
  | 0b0000000#7 =>
    match fFunct3 w with
    | 0b000#3 => .ok (.addw (fRd w) (fRs1 w) (fRs2 w))
    | 0b001#3 => .ok (.sllw (fRd w) (fRs1 w) (fRs2 w))
    | 0b101#3 => .ok (.srlw (fRd w) (fRs1 w) (fRs2 w))
    | _ => .error .unlistedMinor
  | 0b0100000#7 =>
    match fFunct3 w with
    | 0b000#3 => .ok (.subw (fRd w) (fRs1 w) (fRs2 w))
    | 0b101#3 => .ok (.sraw (fRd w) (fRs1 w) (fRs2 w))
    | _ => .error .unlistedMinor
  | _ => .error .unlistedMinor

/-- Op `0100011` (R120). -/
def decodeStore (w : BitVec 32) : Except Reject Instr :=
  match fFunct3 w with
  | 0b000#3 => .ok (.sb (fRs2 w) (fRs1 w) (fImmS w))
  | 0b001#3 => .ok (.sh (fRs2 w) (fRs1 w) (fImmS w))
  | 0b010#3 => .ok (.sw (fRs2 w) (fRs1 w) (fImmS w))
  | 0b011#3 => .ok (.sd (fRs2 w) (fRs1 w) (fImmS w))
  | _ => .error .unlistedMinor

/-- Op `1100011` (R120). -/
def decodeBranch (w : BitVec 32) : Except Reject Instr :=
  match fFunct3 w with
  | 0b000#3 => .ok (.beq (fRs1 w) (fRs2 w) (fImmB w))
  | 0b001#3 => .ok (.bne (fRs1 w) (fRs2 w) (fImmB w))
  | 0b100#3 => .ok (.blt (fRs1 w) (fRs2 w) (fImmB w))
  | 0b101#3 => .ok (.bge (fRs1 w) (fRs2 w) (fImmB w))
  | 0b110#3 => .ok (.bltu (fRs1 w) (fRs2 w) (fImmB w))
  | 0b111#3 => .ok (.bgeu (fRs1 w) (fRs2 w) (fImmB w))
  | _ => .error .unlistedMinor

/-- The rows whose bits a 32-bit word has, on whatever machine (R120). -/
def decodeFull (w : BitVec 32) : Except Reject Instr :=
  match fOp w with
  | 0b0000011#7 => decodeLoad w
  | 0b0000111#7 =>
    match fFunct3 w with
    | 0b010#3 => .ok (.flw (fRd w) (fRs1 w) (fImmI w))
    | 0b011#3 => .ok (.fld (fRd w) (fRs1 w) (fImmI w))
    | _ => .error .unlistedMinor
  | 0b0010011#7 => decodeOpImm w
  | 0b0010111#7 => .ok (.auipc (fRd w) (fImmU w))
  | 0b0011011#7 => decodeOpImm32 w
  | 0b0100011#7 => decodeStore w
  | 0b0100111#7 =>
    match fFunct3 w with
    | 0b010#3 => .ok (.fsw (fRs2 w) (fRs1 w) (fImmS w))
    | 0b011#3 => .ok (.fsd (fRs2 w) (fRs1 w) (fImmS w))
    | _ => .error .unlistedMinor
  | 0b0110011#7 => decodeOp w
  | 0b0110111#7 => .ok (.lui (fRd w) (fImmU w))
  | 0b0111011#7 => decodeOp32 w
  | 0b1000011#7 => decodeR4 w .fmaddS .fmaddD
  | 0b1000111#7 => decodeR4 w .fmsubS .fmsubD
  | 0b1001011#7 => decodeR4 w .fnmsubS .fnmsubD
  | 0b1001111#7 => decodeR4 w .fnmaddS .fnmaddD
  | 0b1010011#7 => decodeOpFp w
  | 0b1100011#7 => decodeBranch w
  | 0b1100111#7 =>
    match fFunct3 w with
    | 0b000#3 => .ok (.jalr (fRd w) (fRs1 w) (fImmI w))
    | _ => .error .unlistedMinor
  | 0b1101111#7 => .ok (.jal (fRd w) (fImmJ w))
  | 0b1110011#7 => decodeSystem w
  | _ => .error .unlistedOpcode

/-- `instr[1:0] = 00` (R129). -/
def decodeQuadrant0 (h : BitVec 16) : Except Reject Instr :=
  match cFunct3 h with
  | 0b000#3 => .ok (.cAddi4spn (cLowReg h) (cImm4spn h))
  | 0b001#3 => .ok (.cFld (cLowReg h) (cHighReg h) (cImmD h))
  | 0b010#3 => .ok (.cLw (cLowReg h) (cHighReg h) (cImmW h))
  | 0b011#3 => .ok (.cFlw (cLowReg h) (cHighReg h) (cImmW h))
  | 0b101#3 => .ok (.cFsd (cLowReg h) (cHighReg h) (cImmD h))
  | 0b110#3 => .ok (.cSw (cLowReg h) (cHighReg h) (cImmW h))
  | 0b111#3 => .ok (.cFsw (cLowReg h) (cHighReg h) (cImmW h))
  | _ => .error .unlistedMinor

/-- The rows `100---` of quadrant 1 (R129, R130 (d), (e)). -/
def decodeCArith (h : BitVec 16) : Except Reject Instr :=
  match cFunct2b h with
  | 0b00#2 =>
    if cBit12 h = 0#1 then .ok (.cSrli (cHighReg h) (cShamt h)) else .error .unlistedMinor
  | 0b01#2 =>
    if cBit12 h = 0#1 then .ok (.cSrai (cHighReg h) (cShamt h)) else .error .unlistedMinor
  | 0b10#2 => .ok (.cAndi (cHighReg h) (cImm6 h))
  | _ =>
    if cBit12 h = 0#1 then
      match cFunct2 h with
      | 0b00#2 => .ok (.cSub (cHighReg h) (cLowReg h))
      | 0b01#2 => .ok (.cXor (cHighReg h) (cLowReg h))
      | 0b10#2 => .ok (.cOr (cHighReg h) (cLowReg h))
      | _ => .ok (.cAnd (cHighReg h) (cLowReg h))
    else .error .unlistedMinor

/-- `instr[1:0] = 01` (R129). -/
def decodeQuadrant1 (h : BitVec 16) : Except Reject Instr :=
  match cFunct3 h with
  | 0b000#3 =>
    if cRd h = 0#5 ∧ cImm6 h = 0#6 then .ok .cNop else .ok (.cAddi (cRd h) (cImm6 h))
  | 0b001#3 => .ok (.cJal (cImmJ h))
  | 0b010#3 => .ok (.cLi (cRd h) (cImm6 h))
  | 0b011#3 =>
    if cRd h = 2#5 then .ok (.cAddi16sp (cImm16sp h)) else .ok (.cLui (cRd h) (cImm6 h))
  | 0b100#3 => decodeCArith h
  | 0b101#3 => .ok (.cJ (cImmJ h))
  | 0b110#3 => .ok (.cBeqz (cHighReg h) (cImmB h))
  | _ => .ok (.cBnez (cHighReg h) (cImmB h))

/-- `instr[1:0] = 10` (R129). -/
def decodeQuadrant2 (h : BitVec 16) : Except Reject Instr :=
  match cFunct3 h with
  | 0b000#3 =>
    if cBit12 h = 0#1 then .ok (.cSlli (cRd h) (cShamt h)) else .error .unlistedMinor
  | 0b001#3 => .ok (.cFldsp (cRd h) (cImmDsp h))
  | 0b010#3 => .ok (.cLwsp (cRd h) (cImmWsp h))
  | 0b011#3 => .ok (.cFlwsp (cRd h) (cImmWsp h))
  | 0b100#3 =>
    if cBit12 h = 0#1 then
      if cRs2 h = 0#5 then .ok (.cJr (cRd h)) else .ok (.cMv (cRd h) (cRs2 h))
    else if cRs2 h = 0#5 then
      if cRd h = 0#5 then .ok .cEbreak else .ok (.cJalr (cRd h))
    else .ok (.cAdd (cRd h) (cRs2 h))
  | 0b101#3 => .ok (.cFsdsp (cRs2 h) (cImmSdsp h))
  | 0b110#3 => .ok (.cSwsp (cRs2 h) (cImmSwsp h))
  | _ => .ok (.cFswsp (cRs2 h) (cImmSwsp h))

/-- The rows whose bits a 16-bit value has, on whatever machine (R129). -/
def decodeHalf (h : BitVec 16) : Except Reject Instr :=
  match cOp h with
  | 0b00#2 => decodeQuadrant0 h
  | 0b01#2 => decodeQuadrant1 h
  | 0b10#2 => decodeQuadrant2 h
  | _ => .error .unlistedOpcode

/-- The row whose bits a fetched instruction has. -/
def decodeBits : Fetched → Except Reject Instr
  | .half h => decodeHalf h
  | .full w => decodeFull w

/-- Decoding on a machine (R121): the row must be one of the machine's, with its side condition. -/
def decode (isa : Isa) (x : Fetched) : Except Reject Instr :=
  match decodeBits x with
  | .error r => .error r
  | .ok i =>
    match i.illFormed isa with
    | none => .ok i
    | some why => .error (.illFormed why)

/-! ## Decoding bytes -/

/-- Two bytes as a 16-bit parcel, the first the low one (`spec/20_memory.md` R75). -/
def parcel (b0 b1 : Byte) : BitVec 16 := b1 ++ b0

/-- The length rule (R101): a parcel whose low two bits are `11` is the low half of a 32-bit
instruction. -/
def isFull (lo : BitVec 16) : Bool := lo.extractLsb' 0 2 == 0b11#2

/-- The instruction that bytes begin with, and the bytes after it. Total: what is no instruction is
rejected by name. -/
def decodeBytes (isa : Isa) (bs : List Byte) : Except Reject (Instr × List Byte) :=
  match bs with
  | b0 :: b1 :: rest =>
    if isFull (parcel b0 b1) then
      match rest with
      | b2 :: b3 :: rest' =>
        (decode isa (.full (parcel b2 b3 ++ parcel b0 b1))).map (·, rest')
      | _ => .error .truncated
    else (decode isa (.half (parcel b0 b1))).map (·, rest)
  | _ => .error .truncated

/-! ## The encoder (R102 to R109, R126) -/

/-- R-type (R103). -/
def encR (funct7 : BitVec 7) (rs2 rs1 : Reg) (funct3 : BitVec 3) (rd : Reg) (op : BitVec 7) :
    BitVec 32 :=
  funct7 ++ rs2 ++ rs1 ++ funct3 ++ rd ++ op

/-- I-type (R104). -/
def encI (imm : BitVec 12) (rs1 : Reg) (funct3 : BitVec 3) (rd : Reg) (op : BitVec 7) :
    BitVec 32 :=
  imm ++ rs1 ++ funct3 ++ rd ++ op

/-- S-type (R105). -/
def encS (imm : BitVec 12) (rs2 rs1 : Reg) (funct3 : BitVec 3) (op : BitVec 7) : BitVec 32 :=
  imm.extractLsb' 5 7 ++ rs2 ++ rs1 ++ funct3 ++ imm.extractLsb' 0 5 ++ op

/-- B-type (R106); `imm` holds `imm[12:1]`. -/
def encB (imm : BitVec 12) (rs2 rs1 : Reg) (funct3 : BitVec 3) (op : BitVec 7) : BitVec 32 :=
  imm.extractLsb' 11 1 ++ imm.extractLsb' 4 6 ++ rs2 ++ rs1 ++ funct3 ++ imm.extractLsb' 0 4
    ++ imm.extractLsb' 10 1 ++ op

/-- U-type (R107). -/
def encU (upimm : BitVec 20) (rd : Reg) (op : BitVec 7) : BitVec 32 := upimm ++ rd ++ op

/-- J-type (R108); `imm` holds `imm[20:1]`. -/
def encJ (imm : BitVec 20) (rd : Reg) (op : BitVec 7) : BitVec 32 :=
  imm.extractLsb' 19 1 ++ imm.extractLsb' 0 10 ++ imm.extractLsb' 10 1 ++ imm.extractLsb' 11 8
    ++ rd ++ op

/-- R4-type (R109). -/
def encR4 (fs3 : Reg) (fmt : BitVec 2) (fs2 fs1 : Reg) (rm : RmField) (fd : Reg)
    (op : BitVec 7) : BitVec 32 :=
  fs3 ++ fmt ++ fs2 ++ fs1 ++ rm.code ++ fd ++ op

/-- CR (R126). -/
def encCR (funct4 : BitVec 4) (rd rs2 : Reg) (op : BitVec 2) : BitVec 16 :=
  funct4 ++ rd ++ rs2 ++ op

/-- CI with the plain 6-bit immediate (R128). -/
def encCI (funct3 : BitVec 3) (imm : BitVec 6) (rd : Reg) (op : BitVec 2) : BitVec 16 :=
  funct3 ++ imm.extractLsb' 5 1 ++ rd ++ imm.extractLsb' 0 5 ++ op

/-- CI of `c.addi16sp` (R128). -/
def encCI16 (funct3 : BitVec 3) (imm : BitVec 6) (op : BitVec 2) : BitVec 16 :=
  funct3 ++ imm.extractLsb' 5 1 ++ 2#5 ++ imm.extractLsb' 0 1 ++ imm.extractLsb' 2 1
    ++ imm.extractLsb' 3 2 ++ imm.extractLsb' 1 1 ++ op

/-- CI of `c.lwsp`, `c.flwsp` (R128). -/
def encCIwsp (funct3 : BitVec 3) (imm : BitVec 6) (rd : Reg) (op : BitVec 2) : BitVec 16 :=
  funct3 ++ imm.extractLsb' 3 1 ++ rd ++ imm.extractLsb' 0 3 ++ imm.extractLsb' 4 2 ++ op

/-- CI of `c.fldsp` (R128). -/
def encCIdsp (funct3 : BitVec 3) (imm : BitVec 6) (rd : Reg) (op : BitVec 2) : BitVec 16 :=
  funct3 ++ imm.extractLsb' 2 1 ++ rd ++ imm.extractLsb' 0 2 ++ imm.extractLsb' 3 3 ++ op

/-- CSS of `c.swsp`, `c.fswsp` (R128). -/
def encCSSw (funct3 : BitVec 3) (imm : BitVec 6) (rs2 : Reg) (op : BitVec 2) : BitVec 16 :=
  funct3 ++ imm.extractLsb' 0 4 ++ imm.extractLsb' 4 2 ++ rs2 ++ op

/-- CSS of `c.fsdsp` (R128). -/
def encCSSd (funct3 : BitVec 3) (imm : BitVec 6) (rs2 : Reg) (op : BitVec 2) : BitVec 16 :=
  funct3 ++ imm.extractLsb' 0 3 ++ imm.extractLsb' 3 3 ++ rs2 ++ op

/-- CIW (R128). -/
def encCIW (funct3 : BitVec 3) (imm : BitVec 8) (rd : CReg) (op : BitVec 2) : BitVec 16 :=
  funct3 ++ imm.extractLsb' 2 2 ++ imm.extractLsb' 4 4 ++ imm.extractLsb' 0 1
    ++ imm.extractLsb' 1 1 ++ rd ++ op

/-- CL and CS of a word (R128). -/
def encCLw (funct3 : BitVec 3) (imm : BitVec 5) (rs1 reg : CReg) (op : BitVec 2) : BitVec 16 :=
  funct3 ++ imm.extractLsb' 1 3 ++ rs1 ++ imm.extractLsb' 0 1 ++ imm.extractLsb' 4 1 ++ reg ++ op

/-- CL and CS of a doubleword (R128). -/
def encCLd (funct3 : BitVec 3) (imm : BitVec 5) (rs1 reg : CReg) (op : BitVec 2) : BitVec 16 :=
  funct3 ++ imm.extractLsb' 0 3 ++ rs1 ++ imm.extractLsb' 3 2 ++ reg ++ op

/-- CS' (R126). -/
def encCSx (funct6 : BitVec 6) (rd : CReg) (funct2 : BitVec 2) (rs2 : CReg) (op : BitVec 2) :
    BitVec 16 :=
  funct6 ++ rd ++ funct2 ++ rs2 ++ op

/-- CB' (R126). -/
def encCBx (funct3 : BitVec 3) (imm : BitVec 6) (funct2 : BitVec 2) (rd : CReg) (op : BitVec 2) :
    BitVec 16 :=
  funct3 ++ imm.extractLsb' 5 1 ++ funct2 ++ rd ++ imm.extractLsb' 0 5 ++ op

/-- CB (R128). -/
def encCB (funct3 : BitVec 3) (imm : BitVec 8) (rs1 : CReg) (op : BitVec 2) : BitVec 16 :=
  funct3 ++ imm.extractLsb' 7 1 ++ imm.extractLsb' 2 2 ++ rs1 ++ imm.extractLsb' 5 2
    ++ imm.extractLsb' 0 2 ++ imm.extractLsb' 4 1 ++ op

/-- CJ (R128). -/
def encCJ (funct3 : BitVec 3) (imm : BitVec 11) (op : BitVec 2) : BitVec 16 :=
  funct3 ++ imm.extractLsb' 10 1 ++ imm.extractLsb' 3 1 ++ imm.extractLsb' 7 2
    ++ imm.extractLsb' 9 1 ++ imm.extractLsb' 5 1 ++ imm.extractLsb' 6 1 ++ imm.extractLsb' 0 3
    ++ imm.extractLsb' 4 1 ++ op

/-- The bits of an instruction (the Encoding part of each rule). -/
def encode (i : Instr) : Fetched :=
  match i with
  | .lb rd rs1 imm => .full (encI imm rs1 0b000#3 rd 0b0000011#7)
  | .lh rd rs1 imm => .full (encI imm rs1 0b001#3 rd 0b0000011#7)
  | .lw rd rs1 imm => .full (encI imm rs1 0b010#3 rd 0b0000011#7)
  | .lbu rd rs1 imm => .full (encI imm rs1 0b100#3 rd 0b0000011#7)
  | .lhu rd rs1 imm => .full (encI imm rs1 0b101#3 rd 0b0000011#7)
  | .addi rd rs1 imm => .full (encI imm rs1 0b000#3 rd 0b0010011#7)
  | .slli rd rs1 shamt => .full (encI (0b000000#6 ++ shamt) rs1 0b001#3 rd 0b0010011#7)
  | .slti rd rs1 imm => .full (encI imm rs1 0b010#3 rd 0b0010011#7)
  | .sltiu rd rs1 imm => .full (encI imm rs1 0b011#3 rd 0b0010011#7)
  | .xori rd rs1 imm => .full (encI imm rs1 0b100#3 rd 0b0010011#7)
  | .srli rd rs1 shamt => .full (encI (0b000000#6 ++ shamt) rs1 0b101#3 rd 0b0010011#7)
  | .srai rd rs1 shamt => .full (encI (0b010000#6 ++ shamt) rs1 0b101#3 rd 0b0010011#7)
  | .ori rd rs1 imm => .full (encI imm rs1 0b110#3 rd 0b0010011#7)
  | .andi rd rs1 imm => .full (encI imm rs1 0b111#3 rd 0b0010011#7)
  | .auipc rd upimm => .full (encU upimm rd 0b0010111#7)
  | .sb rs2 rs1 imm => .full (encS imm rs2 rs1 0b000#3 0b0100011#7)
  | .sh rs2 rs1 imm => .full (encS imm rs2 rs1 0b001#3 0b0100011#7)
  | .sw rs2 rs1 imm => .full (encS imm rs2 rs1 0b010#3 0b0100011#7)
  | .add rd rs1 rs2 => .full (encR 0b0000000#7 rs2 rs1 0b000#3 rd 0b0110011#7)
  | .sub rd rs1 rs2 => .full (encR 0b0100000#7 rs2 rs1 0b000#3 rd 0b0110011#7)
  | .sll rd rs1 rs2 => .full (encR 0b0000000#7 rs2 rs1 0b001#3 rd 0b0110011#7)
  | .slt rd rs1 rs2 => .full (encR 0b0000000#7 rs2 rs1 0b010#3 rd 0b0110011#7)
  | .sltu rd rs1 rs2 => .full (encR 0b0000000#7 rs2 rs1 0b011#3 rd 0b0110011#7)
  | .xor rd rs1 rs2 => .full (encR 0b0000000#7 rs2 rs1 0b100#3 rd 0b0110011#7)
  | .srl rd rs1 rs2 => .full (encR 0b0000000#7 rs2 rs1 0b101#3 rd 0b0110011#7)
  | .sra rd rs1 rs2 => .full (encR 0b0100000#7 rs2 rs1 0b101#3 rd 0b0110011#7)
  | .or rd rs1 rs2 => .full (encR 0b0000000#7 rs2 rs1 0b110#3 rd 0b0110011#7)
  | .and rd rs1 rs2 => .full (encR 0b0000000#7 rs2 rs1 0b111#3 rd 0b0110011#7)
  | .lui rd upimm => .full (encU upimm rd 0b0110111#7)
  | .beq rs1 rs2 imm => .full (encB imm rs2 rs1 0b000#3 0b1100011#7)
  | .bne rs1 rs2 imm => .full (encB imm rs2 rs1 0b001#3 0b1100011#7)
  | .blt rs1 rs2 imm => .full (encB imm rs2 rs1 0b100#3 0b1100011#7)
  | .bge rs1 rs2 imm => .full (encB imm rs2 rs1 0b101#3 0b1100011#7)
  | .bltu rs1 rs2 imm => .full (encB imm rs2 rs1 0b110#3 0b1100011#7)
  | .bgeu rs1 rs2 imm => .full (encB imm rs2 rs1 0b111#3 0b1100011#7)
  | .jalr rd rs1 imm => .full (encI imm rs1 0b000#3 rd 0b1100111#7)
  | .jal rd imm => .full (encJ imm rd 0b1101111#7)
  | .ld rd rs1 imm => .full (encI imm rs1 0b011#3 rd 0b0000011#7)
  | .lwu rd rs1 imm => .full (encI imm rs1 0b110#3 rd 0b0000011#7)
  | .addiw rd rs1 imm => .full (encI imm rs1 0b000#3 rd 0b0011011#7)
  | .slliw rd rs1 shamt => .full (encR 0b0000000#7 shamt rs1 0b001#3 rd 0b0011011#7)
  | .srliw rd rs1 shamt => .full (encR 0b0000000#7 shamt rs1 0b101#3 rd 0b0011011#7)
  | .sraiw rd rs1 shamt => .full (encR 0b0100000#7 shamt rs1 0b101#3 rd 0b0011011#7)
  | .sd rs2 rs1 imm => .full (encS imm rs2 rs1 0b011#3 0b0100011#7)
  | .addw rd rs1 rs2 => .full (encR 0b0000000#7 rs2 rs1 0b000#3 rd 0b0111011#7)
  | .subw rd rs1 rs2 => .full (encR 0b0100000#7 rs2 rs1 0b000#3 rd 0b0111011#7)
  | .sllw rd rs1 rs2 => .full (encR 0b0000000#7 rs2 rs1 0b001#3 rd 0b0111011#7)
  | .srlw rd rs1 rs2 => .full (encR 0b0000000#7 rs2 rs1 0b101#3 rd 0b0111011#7)
  | .sraw rd rs1 rs2 => .full (encR 0b0100000#7 rs2 rs1 0b101#3 rd 0b0111011#7)
  | .fmaddS fd fs1 fs2 fs3 rm => .full (encR4 fs3 0b00#2 fs2 fs1 rm fd 0b1000011#7)
  | .fmaddD fd fs1 fs2 fs3 rm => .full (encR4 fs3 0b01#2 fs2 fs1 rm fd 0b1000011#7)
  | .fmsubS fd fs1 fs2 fs3 rm => .full (encR4 fs3 0b00#2 fs2 fs1 rm fd 0b1000111#7)
  | .fmsubD fd fs1 fs2 fs3 rm => .full (encR4 fs3 0b01#2 fs2 fs1 rm fd 0b1000111#7)
  | .fnmsubS fd fs1 fs2 fs3 rm => .full (encR4 fs3 0b00#2 fs2 fs1 rm fd 0b1001011#7)
  | .fnmsubD fd fs1 fs2 fs3 rm => .full (encR4 fs3 0b01#2 fs2 fs1 rm fd 0b1001011#7)
  | .fnmaddS fd fs1 fs2 fs3 rm => .full (encR4 fs3 0b00#2 fs2 fs1 rm fd 0b1001111#7)
  | .fnmaddD fd fs1 fs2 fs3 rm => .full (encR4 fs3 0b01#2 fs2 fs1 rm fd 0b1001111#7)
  | .faddS fd fs1 fs2 rm => .full (encR 0b0000000#7 fs2 fs1 rm.code fd 0b1010011#7)
  | .faddD fd fs1 fs2 rm => .full (encR 0b0000001#7 fs2 fs1 rm.code fd 0b1010011#7)
  | .fsubS fd fs1 fs2 rm => .full (encR 0b0000100#7 fs2 fs1 rm.code fd 0b1010011#7)
  | .fsubD fd fs1 fs2 rm => .full (encR 0b0000101#7 fs2 fs1 rm.code fd 0b1010011#7)
  | .fmulS fd fs1 fs2 rm => .full (encR 0b0001000#7 fs2 fs1 rm.code fd 0b1010011#7)
  | .fmulD fd fs1 fs2 rm => .full (encR 0b0001001#7 fs2 fs1 rm.code fd 0b1010011#7)
  | .fdivS fd fs1 fs2 rm => .full (encR 0b0001100#7 fs2 fs1 rm.code fd 0b1010011#7)
  | .fdivD fd fs1 fs2 rm => .full (encR 0b0001101#7 fs2 fs1 rm.code fd 0b1010011#7)
  | .fsqrtS fd fs1 rm => .full (encR 0b0101100#7 0#5 fs1 rm.code fd 0b1010011#7)
  | .fsqrtD fd fs1 rm => .full (encR 0b0101101#7 0#5 fs1 rm.code fd 0b1010011#7)
  | .fsgnjS fd fs1 fs2 => .full (encR 0b0010000#7 fs2 fs1 0b000#3 fd 0b1010011#7)
  | .fsgnjD fd fs1 fs2 => .full (encR 0b0010001#7 fs2 fs1 0b000#3 fd 0b1010011#7)
  | .fsgnjnS fd fs1 fs2 => .full (encR 0b0010000#7 fs2 fs1 0b001#3 fd 0b1010011#7)
  | .fsgnjnD fd fs1 fs2 => .full (encR 0b0010001#7 fs2 fs1 0b001#3 fd 0b1010011#7)
  | .fsgnjxS fd fs1 fs2 => .full (encR 0b0010000#7 fs2 fs1 0b010#3 fd 0b1010011#7)
  | .fsgnjxD fd fs1 fs2 => .full (encR 0b0010001#7 fs2 fs1 0b010#3 fd 0b1010011#7)
  | .fminS fd fs1 fs2 => .full (encR 0b0010100#7 fs2 fs1 0b000#3 fd 0b1010011#7)
  | .fminD fd fs1 fs2 => .full (encR 0b0010101#7 fs2 fs1 0b000#3 fd 0b1010011#7)
  | .fmaxS fd fs1 fs2 => .full (encR 0b0010100#7 fs2 fs1 0b001#3 fd 0b1010011#7)
  | .fmaxD fd fs1 fs2 => .full (encR 0b0010101#7 fs2 fs1 0b001#3 fd 0b1010011#7)
  | .feqS rd fs1 fs2 => .full (encR 0b1010000#7 fs2 fs1 0b010#3 rd 0b1010011#7)
  | .feqD rd fs1 fs2 => .full (encR 0b1010001#7 fs2 fs1 0b010#3 rd 0b1010011#7)
  | .fltS rd fs1 fs2 => .full (encR 0b1010000#7 fs2 fs1 0b001#3 rd 0b1010011#7)
  | .fltD rd fs1 fs2 => .full (encR 0b1010001#7 fs2 fs1 0b001#3 rd 0b1010011#7)
  | .fleS rd fs1 fs2 => .full (encR 0b1010000#7 fs2 fs1 0b000#3 rd 0b1010011#7)
  | .fleD rd fs1 fs2 => .full (encR 0b1010001#7 fs2 fs1 0b000#3 rd 0b1010011#7)
  | .fclassS rd fs1 => .full (encR 0b1110000#7 0#5 fs1 0b001#3 rd 0b1010011#7)
  | .fclassD rd fs1 => .full (encR 0b1110001#7 0#5 fs1 0b001#3 rd 0b1010011#7)
  | .flw fd rs1 imm => .full (encI imm rs1 0b010#3 fd 0b0000111#7)
  | .fsw fs2 rs1 imm => .full (encS imm fs2 rs1 0b010#3 0b0100111#7)
  | .fcvtWS rd fs1 rm => .full (encR 0b1100000#7 0#5 fs1 rm.code rd 0b1010011#7)
  | .fcvtWuS rd fs1 rm => .full (encR 0b1100000#7 1#5 fs1 rm.code rd 0b1010011#7)
  | .fcvtSW fd rs1 rm => .full (encR 0b1101000#7 0#5 rs1 rm.code fd 0b1010011#7)
  | .fcvtSWu fd rs1 rm => .full (encR 0b1101000#7 1#5 rs1 rm.code fd 0b1010011#7)
  | .fmvXW rd fs1 => .full (encR 0b1110000#7 0#5 fs1 0b000#3 rd 0b1010011#7)
  | .fmvWX fd rs1 => .full (encR 0b1111000#7 0#5 rs1 0b000#3 fd 0b1010011#7)
  | .fld fd rs1 imm => .full (encI imm rs1 0b011#3 fd 0b0000111#7)
  | .fsd fs2 rs1 imm => .full (encS imm fs2 rs1 0b011#3 0b0100111#7)
  | .fcvtWD rd fs1 rm => .full (encR 0b1100001#7 0#5 fs1 rm.code rd 0b1010011#7)
  | .fcvtWuD rd fs1 rm => .full (encR 0b1100001#7 1#5 fs1 rm.code rd 0b1010011#7)
  | .fcvtDW fd rs1 rm => .full (encR 0b1101001#7 0#5 rs1 rm.code fd 0b1010011#7)
  | .fcvtDWu fd rs1 rm => .full (encR 0b1101001#7 1#5 rs1 rm.code fd 0b1010011#7)
  | .fcvtSD fd fs1 rm => .full (encR 0b0100000#7 1#5 fs1 rm.code fd 0b1010011#7)
  | .fcvtDS fd fs1 rm => .full (encR 0b0100001#7 0#5 fs1 rm.code fd 0b1010011#7)
  | .mul rd rs1 rs2 => .full (encR 0b0000001#7 rs2 rs1 0b000#3 rd 0b0110011#7)
  | .mulh rd rs1 rs2 => .full (encR 0b0000001#7 rs2 rs1 0b001#3 rd 0b0110011#7)
  | .mulhsu rd rs1 rs2 => .full (encR 0b0000001#7 rs2 rs1 0b010#3 rd 0b0110011#7)
  | .mulhu rd rs1 rs2 => .full (encR 0b0000001#7 rs2 rs1 0b011#3 rd 0b0110011#7)
  | .div rd rs1 rs2 => .full (encR 0b0000001#7 rs2 rs1 0b100#3 rd 0b0110011#7)
  | .divu rd rs1 rs2 => .full (encR 0b0000001#7 rs2 rs1 0b101#3 rd 0b0110011#7)
  | .rem rd rs1 rs2 => .full (encR 0b0000001#7 rs2 rs1 0b110#3 rd 0b0110011#7)
  | .remu rd rs1 rs2 => .full (encR 0b0000001#7 rs2 rs1 0b111#3 rd 0b0110011#7)
  | .cAddi4spn rd imm => .half (encCIW 0b000#3 imm rd 0b00#2)
  | .cFld fd rs1 imm => .half (encCLd 0b001#3 imm rs1 fd 0b00#2)
  | .cLw rd rs1 imm => .half (encCLw 0b010#3 imm rs1 rd 0b00#2)
  | .cFlw fd rs1 imm => .half (encCLw 0b011#3 imm rs1 fd 0b00#2)
  | .cFsd fs2 rs1 imm => .half (encCLd 0b101#3 imm rs1 fs2 0b00#2)
  | .cSw rs2 rs1 imm => .half (encCLw 0b110#3 imm rs1 rs2 0b00#2)
  | .cFsw fs2 rs1 imm => .half (encCLw 0b111#3 imm rs1 fs2 0b00#2)
  | .cNop => .half (encCI 0b000#3 0#6 0#5 0b01#2)
  | .cAddi rd imm => .half (encCI 0b000#3 imm rd 0b01#2)
  | .cJal imm => .half (encCJ 0b001#3 imm 0b01#2)
  | .cLi rd imm => .half (encCI 0b010#3 imm rd 0b01#2)
  | .cLui rd imm => .half (encCI 0b011#3 imm rd 0b01#2)
  | .cAddi16sp imm => .half (encCI16 0b011#3 imm 0b01#2)
  | .cSrli rd shamt => .half (encCBx 0b100#3 (0#1 ++ shamt) 0b00#2 rd 0b01#2)
  | .cSrai rd shamt => .half (encCBx 0b100#3 (0#1 ++ shamt) 0b01#2 rd 0b01#2)
  | .cAndi rd imm => .half (encCBx 0b100#3 imm 0b10#2 rd 0b01#2)
  | .cSub rd rs2 => .half (encCSx 0b100011#6 rd 0b00#2 rs2 0b01#2)
  | .cXor rd rs2 => .half (encCSx 0b100011#6 rd 0b01#2 rs2 0b01#2)
  | .cOr rd rs2 => .half (encCSx 0b100011#6 rd 0b10#2 rs2 0b01#2)
  | .cAnd rd rs2 => .half (encCSx 0b100011#6 rd 0b11#2 rs2 0b01#2)
  | .cJ imm => .half (encCJ 0b101#3 imm 0b01#2)
  | .cBeqz rs1 imm => .half (encCB 0b110#3 imm rs1 0b01#2)
  | .cBnez rs1 imm => .half (encCB 0b111#3 imm rs1 0b01#2)
  | .cSlli rd shamt => .half (encCI 0b000#3 (0#1 ++ shamt) rd 0b10#2)
  | .cFldsp fd imm => .half (encCIdsp 0b001#3 imm fd 0b10#2)
  | .cLwsp rd imm => .half (encCIwsp 0b010#3 imm rd 0b10#2)
  | .cFlwsp fd imm => .half (encCIwsp 0b011#3 imm fd 0b10#2)
  | .cJr rs1 => .half (encCR 0b1000#4 rs1 0#5 0b10#2)
  | .cMv rd rs2 => .half (encCR 0b1000#4 rd rs2 0b10#2)
  | .cEbreak => .half (encCR 0b1001#4 0#5 0#5 0b10#2)
  | .cJalr rs1 => .half (encCR 0b1001#4 rs1 0#5 0b10#2)
  | .cAdd rd rs2 => .half (encCR 0b1001#4 rd rs2 0b10#2)
  | .cFsdsp fs2 imm => .half (encCSSd 0b101#3 imm fs2 0b10#2)
  | .cSwsp rs2 imm => .half (encCSSw 0b110#3 imm rs2 0b10#2)
  | .cFswsp fs2 imm => .half (encCSSw 0b111#3 imm fs2 0b10#2)
  | .ecall => .full (encI 0#12 0#5 0b000#3 0#5 0b1110011#7)
  | .ebreak => .full (encI 1#12 0#5 0b000#3 0#5 0b1110011#7)
  | .uret => .full (encI 2#12 0#5 0b000#3 0#5 0b1110011#7)
  | .sret => .full (encI 258#12 0#5 0b000#3 0#5 0b1110011#7)
  | .mret => .full (encI 770#12 0#5 0b000#3 0#5 0b1110011#7)
  | .crrw rd csr rs1 => .full (encI csr rs1 0b001#3 rd 0b1110011#7)
  | .crrs rd csr rs1 => .full (encI csr rs1 0b010#3 rd 0b1110011#7)
  | .crrc rd csr rs1 => .full (encI csr rs1 0b011#3 rd 0b1110011#7)
  | .crrwi rd csr uimm => .full (encI csr uimm 0b101#3 rd 0b1110011#7)
  | .crrsi rd csr uimm => .full (encI csr uimm 0b110#3 rd 0b1110011#7)
  | .crrci rd csr uimm => .full (encI csr uimm 0b111#3 rd 0b1110011#7)

/-! ## The host's question -/

/-- Byte `k` of a number, the least significant first. -/
def byteOfNat (w k : Nat) : Byte := BitVec.ofNat 8 (w >>> (8 * k))

/-- The bytes of an instruction whose bits, numbered as `spec/opcode_table.json` numbers them, are
`w`; every bit above `nbits` is 0. Four bytes: the longest instruction. -/
def tableBytes (nbits w : Nat) : List Byte :=
  let v := w % 2 ^ nbits
  [byteOfNat v 0, byteOfNat v 1, byteOfNat v 2, byteOfNat v 3]

/-- The instruction the decoder reads: on the reference machine `RV32`, or, where that machine has no
such row (Table B.2, a shift amount of 32 or more), on `RV64` (`spec/00_scope.md` R7; log 12). -/
def decodeTableWord (nbits w : Nat) : Option Instr :=
  match decodeBytes Isa.rv32ref (tableBytes nbits w) with
  | .ok (i, _) => some i
  | .error _ =>
    match decodeBytes Isa.rv64ref (tableBytes nbits w) with
    | .ok (i, _) => some i
    | .error _ => none

end Sys2Proof
end

