-- ==== Sys2Proof/Machine/Alu.lean ====
section
/-! DEFINITION. The integer operations at any register width (`spec/00_scope.md` R12 to R14,
`spec/40_rv32i.md`, `spec/43_rvm.md`). -/

namespace Sys2Proof.Machine

/-- Addition modulo `2^w` (R12). -/
def aluAdd (w : Nat) (a b : BitVec w) : BitVec w := a + b

/-- Subtraction modulo `2^w` (R12). -/
def aluSub (w : Nat) (a b : BitVec w) : BitVec w := a - b

/-- Bitwise and (R13). -/
def aluAnd (w : Nat) (a b : BitVec w) : BitVec w := a &&& b

/-- Bitwise or (R13). -/
def aluOr (w : Nat) (a b : BitVec w) : BitVec w := a ||| b

/-- Bitwise exclusive or (R13). -/
def aluXor (w : Nat) (a b : BitVec w) : BitVec w := a ^^^ b

/-- Shift left by the low `log2 w` bits of `b` (R13, `spec/40_rv32i.md` R172). -/
def aluSll (w : Nat) (a b : BitVec w) : BitVec w := a <<< (b.toNat % w)

/-- Logical shift right by the low `log2 w` bits of `b` (R13, `spec/40_rv32i.md` R176). -/
def aluSrl (w : Nat) (a b : BitVec w) : BitVec w := a >>> (b.toNat % w)

/-- Arithmetic shift right by the low `log2 w` bits of `b` (R13, `spec/40_rv32i.md` R177). -/
def aluSra (w : Nat) (a b : BitVec w) : BitVec w := a.sshiftRight (b.toNat % w)

/-- 1 if `a <s b`, else 0 (R14, `spec/40_rv32i.md` R173). -/
def aluSlt (w : Nat) (a b : BitVec w) : BitVec w := if a.toInt < b.toInt then 1#w else 0#w

/-- 1 if `a <u b`, else 0 (R14, `spec/40_rv32i.md` R174). -/
def aluSltu (w : Nat) (a b : BitVec w) : BitVec w := if a.toNat < b.toNat then 1#w else 0#w

/-- The low half of the product (`spec/43_rvm.md` R311). -/
def aluMul (w : Nat) (a b : BitVec w) : BitVec w := BitVec.ofNat w (a.toNat * b.toNat)

/-- The high half of the signed product (`spec/43_rvm.md` R312). -/
def aluMulh (w : Nat) (a b : BitVec w) : BitVec w := BitVec.ofInt w (a.toInt * b.toInt / 2 ^ w)

/-- The high half of the product of a signed and an unsigned value (`spec/43_rvm.md` R313). -/
def aluMulhsu (w : Nat) (a b : BitVec w) : BitVec w :=
  BitVec.ofInt w (a.toInt * (b.toNat : Int) / 2 ^ w)

/-- The high half of the unsigned product (`spec/43_rvm.md` R314). -/
def aluMulhu (w : Nat) (a b : BitVec w) : BitVec w := BitVec.ofNat w (a.toNat * b.toNat / 2 ^ w)

/-- The signed quotient, rounded toward zero (`spec/43_rvm.md` R315), of a non-zero divisor. -/
def aluDiv (w : Nat) (a b : BitVec w) : BitVec w := BitVec.ofInt w (a.toInt.tdiv b.toInt)

/-- The unsigned quotient (`spec/43_rvm.md` R316) of a non-zero divisor. -/
def aluDivu (w : Nat) (a b : BitVec w) : BitVec w := BitVec.ofNat w (a.toNat / b.toNat)

/-- The signed remainder, with the sign of the dividend (`spec/43_rvm.md` R317), of a non-zero
divisor. -/
def aluRem (w : Nat) (a b : BitVec w) : BitVec w := BitVec.ofInt w (a.toInt.tmod b.toInt)

/-- The unsigned remainder (`spec/43_rvm.md` R318) of a non-zero divisor. -/
def aluRemu (w : Nat) (a b : BitVec w) : BitVec w := BitVec.ofNat w (a.toNat % b.toNat)

/-- `a == b` (R14). -/
def cmpEq (w : Nat) (a b : BitVec w) : Bool := a == b

/-- `a != b` (R14). -/
def cmpNe (w : Nat) (a b : BitVec w) : Bool := a != b

/-- `a <s b` (R14). -/
def cmpLt (w : Nat) (a b : BitVec w) : Bool := decide (a.toInt < b.toInt)

/-- `a >=s b` (R14). -/
def cmpGe (w : Nat) (a b : BitVec w) : Bool := decide (b.toInt ≤ a.toInt)

/-- `a <u b` (R14). -/
def cmpLtu (w : Nat) (a b : BitVec w) : Bool := decide (a.toNat < b.toNat)

/-- `a >=u b` (R14). -/
def cmpGeu (w : Nat) (a b : BitVec w) : Bool := decide (b.toNat ≤ a.toNat)

end Sys2Proof.Machine
end

