-- ==== Sys2Proof/Machine/Bits.lean ====
section
/-! DEFINITION. Widths: cutting a slot to `XLEN` bits, computing at `XLEN` bits in 64-bit slots, sign
extension, alignment of instruction addresses. -/

namespace Sys2Proof

/-- The low `XLEN` bits of a slot, the rest zero (log 2). -/
def Xlen.narrow (x : Xlen) (v : Word) : Word :=
  match x with
  | .x32 => (v.setWidth 32).setWidth 64
  | .x64 => v

/-- An operation on one `XLEN`-bit value, in slots. -/
def Xlen.lift1 (x : Xlen) (op : (w : Nat) → BitVec w → BitVec w) (a : Word) : Word :=
  match x with
  | .x32 => (op 32 (a.setWidth 32)).setWidth 64
  | .x64 => op 64 a

/-- An operation on two `XLEN`-bit values, in slots. -/
def Xlen.lift2 (x : Xlen) (op : (w : Nat) → BitVec w → BitVec w → BitVec w) (a b : Word) :
    Word :=
  match x with
  | .x32 => (op 32 (a.setWidth 32) (b.setWidth 32)).setWidth 64
  | .x64 => op 64 a b

/-- A comparison of two `XLEN`-bit values, in slots. -/
def Xlen.cmp (x : Xlen) (op : (w : Nat) → BitVec w → BitVec w → Bool) (a b : Word) : Bool :=
  match x with
  | .x32 => op 32 (a.setWidth 32) (b.setWidth 32)
  | .x64 => op 64 a b

/-- The unsigned reading of an `XLEN`-bit value (`spec/00_scope.md` R12). -/
def Xlen.unsigned (x : Xlen) (v : Word) : Nat :=
  match x with
  | .x32 => (v.setWidth 32).toNat
  | .x64 => v.toNat

/-- The signed reading of an `XLEN`-bit value (`spec/00_scope.md` R12). -/
def Xlen.signed (x : Xlen) (v : Word) : Int :=
  match x with
  | .x32 => (v.setWidth 32).toInt
  | .x64 => v.toInt

/-- `SignExt`: `sext_64`; a write to an `XLEN`-bit register cuts it to `sext_XLEN`
(`spec/00_scope.md` R11). -/
def sext {w : Nat} (v : BitVec w) : Word := v.signExtend 64

/-- `ZeroExt` (`spec/00_scope.md` R11). -/
def zext {w : Nat} (v : BitVec w) : Word := v.setWidth 64

/-- The low 32 bits of a slot: the word of `spec/41_rv64i.md` R200. -/
def low32 (v : Word) : BitVec 32 := v.setWidth 32

/-- Clear the low `log2(IALIGN/8)` bits: what an exception program counter holds of a value
(`spec/10_state.md` R43). -/
def Isa.alignPc (i : Isa) (v : Word) : Word :=
  match i.hasC with
  | true => v &&& ~~~1#64
  | false => v &&& ~~~3#64

/-- A multiple of `IALIGN/8` (`spec/10_state.md` R36). -/
def Isa.pcAligned (i : Isa) (v : Word) : Bool := v.toNat % i.ialignBytes == 0

/-- The register a 3-bit designator names: `8 + field` (`spec/30_encoding.md` R127). -/
def CReg.reg (r : CReg) : Reg := 0b01#2 ++ r

/-- The code of a mode: U = 0, S = 1, M = 3 (`spec/10_state.md` R46). -/
def Priv.code : Priv → BitVec 2
  | .u => 0#2
  | .s => 1#2
  | .m => 3#2

/-- `a < b` in the order U < S < M (`spec/10_state.md` R46). -/
def Priv.below (a b : Priv) : Bool := decide (a.code.toNat < b.code.toNat)

end Sys2Proof
end

