-- ==== Sys2Proof/Machine/CsrRules.lean ====
section
/-! DEFINITION. The read rule and the write rule of a register given by its fields
(`spec/46_priv_csr.md` R452 (4), (6); log 18). -/

namespace Sys2Proof

/-- The bits of a field, at the bottom of a word. -/
def CsrField.ones (f : CsrField) : Word := BitVec.allOnes 64 >>> (64 - f.width)

/-- The bits of a field, in place. -/
def CsrField.mask (f : CsrField) : Word := f.ones <<< f.lo

/-- The value of a field. -/
def CsrField.get (f : CsrField) (v : Word) : Word := (v >>> f.lo) &&& f.ones

/-- `acc` with a field taken from `new`. -/
def CsrField.take (f : CsrField) (new acc : Word) : Word :=
  (acc &&& ~~~f.mask) ||| (new &&& f.mask)

/-- `acc` after a write of `new` to a field. -/
def CsrField.write (f : CsrField) (new acc : Word) : Word :=
  match f.kind with
  | .any => f.take new acc
  | .legal vs => if vs.contains (f.get new) then f.take new acc else acc
  | .readOnly => acc
  | .zero => acc

/-- `acc` as a read shows a field of it. -/
def CsrField.reveal (f : CsrField) (acc : Word) : Word :=
  match f.kind with
  | .any | .legal _ | .readOnly => acc
  | .zero => acc &&& ~~~f.mask

/-- `acc` with a legal value in a field: an unspecified value after reset is one the field can hold. -/
def CsrField.legalize (f : CsrField) (acc : Word) : Word :=
  match f.kind with
  | .legal vs => if vs.contains (f.get acc) then acc else f.take (vs.headD 0#64 <<< f.lo) acc
  | .any | .readOnly | .zero => acc

/-- What a register holds after a write (R452 (6)): reserved bits keep their values. -/
def CsrDesc.written (d : CsrDesc) (old new : Word) : Word :=
  d.fields.foldl (fun acc f => f.write new acc) old

/-- What a read of a register shows (R452 (4)). -/
def CsrDesc.shown (d : CsrDesc) (v : Word) : Word :=
  d.fields.foldl (fun acc f => f.reveal acc) v

/-- What a register holds after reset: its reset value, or the value drawn. -/
def CsrDesc.initial (d : CsrDesc) (drawn : Word) : Word :=
  match d.reset with
  | some v => v
  | none => d.fields.foldl (fun acc f => f.legalize acc) drawn

end Sys2Proof
end

