-- ==== Sys2Proof/Machine/Memory.lean ====
section
/-! DEFINITION. Memory as plain data: the bytes that differ from the one byte every other address
reads as, in one canonical form (`spec/10_state.md` R47; log 9), and sets of addresses. -/

namespace Sys2Proof.Machine

/-- The content of the address space: `cells` lists, at strictly rising addresses, the bytes that are
not `fill`; every other address reads as `fill`, the byte drawn at launch (`spec/10_state.md` R55;
log 9). -/
structure Memory where
  cells : List Host.Cell
  fill : Byte
deriving DecidableEq, Repr

/-- The byte listed at an address, or `d`. -/
def lookupCell (d : Byte) (a : Nat) : List Host.Cell → Byte
  | [] => d
  | c :: cs => if c.1 = a then c.2 else lookupCell d a cs

/-- List `b` at address `a`, keeping the addresses strictly rising. -/
def insertCell (a : Nat) (b : Byte) : List Host.Cell → List Host.Cell
  | [] => [(a, b)]
  | c :: cs =>
    if a < c.1 then (a, b) :: c :: cs
    else if c.1 = a then (a, b) :: cs
    else c :: insertCell a b cs

/-- List nothing at address `a`. -/
def eraseCell (a : Nat) : List Host.Cell → List Host.Cell
  | [] => []
  | c :: cs => if c.1 = a then cs else c :: eraseCell a cs

/-- Read one byte. -/
def Memory.read (m : Memory) (a : Nat) : Byte := lookupCell m.fill a m.cells

/-- Write one byte; writing `fill` unlists the address. -/
def Memory.write (m : Memory) (a : Nat) (b : Byte) : Memory :=
  { m with cells := if b = m.fill then eraseCell a m.cells else insertCell a b m.cells }

/-- The addresses of the cells are strictly above `lo`, strictly rising, and no byte is `d`. -/
def cellsOk (d : Byte) : Option Nat → List Host.Cell → Bool
  | _, [] => true
  | lo, c :: cs =>
    (match lo with
     | none => true
     | some l => decide (l < c.1)) && c.2 != d && cellsOk d (some c.1) cs

/-- The canonical form: equal contents are equal data. -/
def Memory.wf (m : Memory) : Bool := cellsOk m.fill none m.cells

/-- The value in the bytes at the listed addresses, the first byte the least significant
(`spec/20_memory.md` R74). -/
def Memory.readLE (m : Memory) : List Nat → Word
  | [] => 0#64
  | a :: as => (m.read a).setWidth 64 ||| (m.readLE as <<< 8)

/-- Store the bytes of a value at the listed addresses, the least significant byte first
(`spec/20_memory.md` R73, R74). -/
def Memory.writeLE (m : Memory) : List Nat → Word → Memory
  | [], _ => m
  | a :: as, v => (m.write a (v.setWidth 8)).writeLE as (v >>> 8)

/-- Place bytes at consecutive addresses of a space of `size` addresses: a piece of launch image
(`spec/10_state.md` R55). -/
def Memory.place (m : Memory) (size : Nat) (a : Nat) : List Byte → Memory
  | [] => m
  | b :: bs => (m.write (a % size) b).place size (a + 1) bs

/-- Add an address to a strictly rising list. -/
def addAddr (a : Nat) : List Nat → List Nat
  | [] => [a]
  | b :: bs => if a < b then a :: b :: bs else if b = a then b :: bs else b :: addAddr a bs

/-- Add addresses one by one. -/
def addAddrs (l : List Nat) : List Nat → List Nat
  | [] => l
  | a :: as => addAddrs (addAddr a l) as

/-- Strictly rising, above `lo`. -/
def addrsOk : Option Nat → List Nat → Bool
  | _, [] => true
  | lo, a :: as =>
    (match lo with
     | none => true
     | some l => decide (l < a)) && addrsOk (some a) as

end Sys2Proof.Machine
end

