-- ==== Sys2Proof/Machine/State.lean ====
section
/-! DEFINITION. The state of the machine, what ends a step other than a next state, and reset
(`spec/10_state.md`, `spec/70_reset_and_hazards.md` R521). -/

namespace Sys2Proof.Machine

/-- The exceptions of `spec/60_exceptions.md` R470. An environment call carries the mode it was made
in, which is part of the record (log 25). -/
inductive Exc where
  | instructionAddressMisaligned
  | instructionAccessFault
  | illegalInstruction
  | breakpoint
  | loadAddressMisaligned
  | loadAccessFault
  | storeAddressMisaligned
  | storeAccessFault
  | environmentCall (p : Priv)
deriving DecidableEq, Repr

/-- What the outcome record names: an exception, or the model fault of `spec/20_memory.md` R87. -/
inductive StopReason where
  | exception (e : Exc)
  | fetchOfModifiedMemory
deriving DecidableEq, Repr

/-- The outcome record (`spec/10_state.md` R49): `running`, or `faulted(E, info, pc)`. -/
inductive RunState where
  | running
  | faulted (why : StopReason) (info pc : Word)
deriving DecidableEq, Repr

/-- The value of a register that `Config.extraCsrs` describes (`spec/10_state.md` R42; log 18). -/
structure ExtraCsr where
  num : BitVec 12
  val : Word
deriving DecidableEq, Repr

/-- The machine: its parameters (log 1) and all the state of `spec/10_state.md`. -/
structure State where
  /-- The parameters (`spec/00_scope.md` R6); every step keeps them. -/
  cfg : Config
  /-- `x0` to `x31` (R30); slot 0 is 0 (R31). -/
  x : Vector Word 32
  /-- `f0` to `f31`, `FLEN` bits each, the rest of a slot zero (R39, R40; log 27). -/
  f : Vector Word 32
  /-- The address of the instruction being executed (R34). -/
  pc : Word
  /-- `{NV, DZ, OF, UF, NX}`, CSR 0x001 (R44). -/
  fflags : BitVec 5
  /-- The dynamic rounding mode, CSR 0x002 (R44). -/
  frm : BitVec 3
  /-- CSR 0x041 (R43). -/
  uepc : Word
  /-- CSR 0x141 (R43). -/
  sepc : Word
  /-- CSR 0x341 (R43). -/
  mepc : Word
  /-- `mstatus.MIE`, bit 3 of CSR 0x300 (`spec/60_exceptions.md` R479). -/
  mie : Bool
  /-- `mstatus.MPIE`, bit 7 (R479). -/
  mpie : Bool
  /-- `mstatus.MPP`, bits 12:11 (R479; log 28). -/
  mpp : Priv
  /-- CSR 0x305 (R479). -/
  mtvec : Word
  /-- CSR 0x340 (R479). -/
  mscratch : Word
  /-- CSR 0x342 (R479). -/
  mcause : Word
  /-- CSR 0x343 (R479). -/
  mtval : Word
  /-- The values of the registers of `CSR_FILE` that the spec does not describe (log 18). -/
  extra : List ExtraCsr
  /-- The current privilege mode (R46). -/
  priv : Priv
  /-- The bytes of memory (R47). -/
  mem : Memory
  /-- The addresses stored to since reset, strictly rising (`spec/20_memory.md` R87). -/
  modified : List Nat
  /-- The outcome record (R49). -/
  outcome : RunState
  /-- The model's own, no state of the spec: how many free values the run has drawn (log 15). -/
  draws : Nat
deriving DecidableEq, Repr

/-- What makes the machine stop. -/
inductive Fault where
  /-- Raised by `step` alone, of a machine whose outcome record is already `faulted`: it takes no
  further step (`spec/10_state.md` R49, `spec/60_exceptions.md` R472). Safe: the spec says so. -/
  | halted (why : StopReason) (info pc : Word)
deriving DecidableEq, Repr

/-- What the model gives no meaning. -/
inductive Refusal where
  /-- Raised by an arm of `exec` whose instruction has no meaning yet. Safe: nothing is claimed. -/
  | notModelled (mnemonic : String)
deriving DecidableEq, Repr

/-- The outcome of a step or of an instruction. -/
abbrev Result := Host.Outcome State Fault Refusal

/-- What reset leaves unspecified, drawn afresh per launch (`spec/10_state.md` R51 to R53, R55), and
the launch image as pieces: an address and the bytes from it on. A register of `Config.extraCsrs` without
a reset value is drawn by number in `extra`, or is `extraFill`. -/
structure Launch where
  x : Vector Word 32
  f : Vector Word 32
  fflags : BitVec 5
  frm : BitVec 3
  uepc : Word
  sepc : Word
  mepc : Word
  mtvec : Word
  mscratch : Word
  mcause : Word
  mtval : Word
  extra : List ExtraCsr
  extraFill : Word
  fill : Byte
  image : List (Nat × List Byte)
deriving DecidableEq, Repr

/-- The memory of a launch: the image over the drawn byte (`spec/10_state.md` R55). -/
def Launch.memory (l : Launch) (size : Nat) : Memory :=
  l.image.foldl (fun m p => m.place size p.1 p.2) { cells := [], fill := l.fill }

/-- The value of the register with a number, or `d`. -/
def lookupCsr (d : Word) (n : BitVec 12) : List ExtraCsr → Word
  | [] => d
  | c :: cs => if c.num = n then c.val else lookupCsr d n cs

/-- The low `FLEN` bits of a slot, the rest zero (`spec/10_state.md` R40). Without `F` the model takes
`FLEN` to be 32: DESIGN CHOICE (log 27). -/
def flenNarrow (i : Isa) (v : Word) : Word :=
  match i.flen64 with
  | true => v
  | false => (v.setWidth 32).setWidth 64

/-- Reset of a machine with parameters `c`, the unspecified values being those of `l`: the table of
`spec/70_reset_and_hazards.md` R521. -/
def State.resetWith (c : Config) (l : Launch) : State :=
  { cfg := c
    x := (l.x.map c.xlen.narrow).set 0 0#64
    f := l.f.map (flenNarrow c.isa)
    pc := c.resetPc
    fflags := l.fflags
    frm := l.frm
    uepc := c.isa.alignPc (c.xlen.narrow l.uepc)
    sepc := c.isa.alignPc (c.xlen.narrow l.sepc)
    mepc := c.isa.alignPc (c.xlen.narrow l.mepc)
    mie := false
    mpie := false
    mpp := .m
    mtvec := c.xlen.narrow l.mtvec &&& ~~~3#64
    mscratch := c.xlen.narrow l.mscratch
    mcause := c.xlen.narrow l.mcause
    mtval := c.xlen.narrow l.mtval
    extra := c.extraCsrs.map fun d =>
      { num := d.num, val := c.xlen.narrow (d.initial (lookupCsr l.extraFill d.num l.extra)) }
    priv := .m
    mem := l.memory (2 ^ c.xlen.bits)
    modified := []
    outcome := .running
    draws := 0 }

/-- DESIGN CHOICE (logs 4 to 9): the values of the model's own reset state for what the spec leaves
unspecified; none is zero, as `spec/10_state.md` R51 asks. Unsafe for claims that rest on them. -/
def Launch.chosen : Launch :=
  { x := Vector.replicate 32 0xA5A5A5A0#64
    f := Vector.replicate 32 0xA5A5A5A5A5A5A5A5#64
    fflags := 0b10101#5
    frm := 1#3
    uepc := 0xA5A5A5A0#64
    sepc := 0xA5A5A5A0#64
    mepc := 0xA5A5A5A0#64
    mtvec := 0xA5A5A5A0#64
    mscratch := 0xA5A5A5A0#64
    mcause := 0xA5A5A5A0#64
    mtval := 0xA5A5A5A0#64
    extra := []
    extraFill := 0xA5A5A5A0#64
    fill := 0xFF#8
    image := [] }

/-- The machine right after reset: the reference configuration (`spec/00_scope.md` R7), nothing
launched. -/
def State.reset : State := State.resetWith Config.reference Launch.chosen

end Sys2Proof.Machine
end

