-- ==== Sys2Proof/Machine/Ops.lean ====
section
/-! DEFINITION. The operations the meanings share: registers, the program counter, taking an
exception and returning from one, memory access. -/

namespace Sys2Proof.Machine

/-! ## Registers -/

/-- A slot of a register file. -/
def regGet (v : Vector Word 32) (r : Reg) : Word := v[r.toNat]'(r.isLt)

/-- A register file with one slot replaced. -/
def regSet (v : Vector Word 32) (r : Reg) (w : Word) : Vector Word 32 := v.set r.toNat w (r.isLt)

/-- `XLEN`. -/
def State.xlen (s : State) : Xlen := s.cfg.xlen

/-- `x[r]`; `x[0]` reads as zero (`spec/10_state.md` R31). -/
def State.readX (s : State) (r : Reg) : Word := if r = 0#5 then 0#64 else regGet s.x r

/-- `x[r] <- v`; a write to `x[0]` is discarded (`spec/10_state.md` R31). -/
def State.writeX (s : State) (r : Reg) (v : Word) : State :=
  if r = 0#5 then s else { s with x := regSet s.x r (s.xlen.narrow v) }

/-- `f[r]`: `FLEN` bits. -/
def State.readF (s : State) (r : Reg) : Word := regGet s.f r

/-- `f[r] <- v`. -/
def State.writeF (s : State) (r : Reg) (v : Word) : State :=
  { s with f := regSet s.f r (flenNarrow s.cfg.isa v) }

/-! ## The program counter -/

/-- `pc <- v`, cut to `XLEN` bits (`spec/10_state.md` R37). -/
def State.setPc (s : State) (v : Word) : State := { s with pc := s.xlen.narrow v }

/-- The address of the next instruction in sequence: also the link value (`spec/10_state.md` R35,
`spec/40_rv32i.md` R188). -/
def State.nextPc (s : State) (ilen : Nat) : Word :=
  s.xlen.narrow (s.pc + BitVec.ofNat 64 ilen)

/-- The sequential advance (`spec/10_state.md` R35). -/
def State.advance (s : State) (ilen : Nat) : State := s.setPc (s.nextPc ilen)

/-! ## Taking an exception and returning from one -/

/-- The code of an exception (`spec/60_exceptions.md` R470). -/
def Exc.code : Exc → Nat
  | .instructionAddressMisaligned => 0
  | .instructionAccessFault => 1
  | .illegalInstruction => 2
  | .breakpoint => 3
  | .loadAddressMisaligned => 4
  | .loadAccessFault => 5
  | .storeAddressMisaligned => 6
  | .storeAccessFault => 7
  | .environmentCall .u => 8
  | .environmentCall .s => 9
  | .environmentCall .m => 11

/-- The event written to the outcome record, with the address of the instruction; nothing else
changes (`spec/60_exceptions.md` R472). -/
def State.stop (s : State) (why : StopReason) (info : Word) : State :=
  { s with outcome := .faulted why (s.xlen.narrow info) s.pc }

/-- Entry into the handler (`spec/60_exceptions.md` R480): `mepc` saves the pc, `mcause` the code,
`mtval` the info, `MPIE` the `MIE` bit and `MPP` the mode; `MIE` is cleared, the mode becomes M, the
pc goes to `mtvec`. DESIGN CHOICE: on a machine whose `CSR_FILE` lacks one of these registers the field
of State is used all the same (log 34). -/
def State.trapEntry (s : State) (e : Exc) (info : Word) : State :=
  { s with
    mepc := s.cfg.isa.alignPc s.pc
    mcause := BitVec.ofNat 64 e.code
    mtval := s.xlen.narrow info
    mpie := s.mie
    mie := false
    mpp := s.priv
    priv := .m
    pc := s.mtvec &&& ~~~3#64 }

/-- `raise E(info)` (`spec/00_scope.md` R17): by `TRAP_LAYER`, the outcome record
(`spec/60_exceptions.md` R472) or the handler (R480). Always a next state (log 10). -/
def State.raise (s : State) (e : Exc) (info : Word) : State :=
  match s.cfg.trapLayer with
  | .fault => s.stop (.exception e) info
  | .mmode => s.trapEntry e info

/-- `raise IllegalInstruction` by an instruction: the info is its own bits
(`spec/60_exceptions.md` R470; log 23). -/
def State.illegal (s : State) (i : Instr) : State :=
  s.raise .illegalInstruction (encode i).bits

/-- The status update of `mret` under the layer (`spec/60_exceptions.md` R481): the mode becomes
`MPP`, `MIE` becomes `MPIE`, `MPIE` becomes 1, `MPP` the lowest mode; without `mstatus` in `CSR_FILE` too
(log 34). -/
def State.popStatus (s : State) : State :=
  { s with
    priv := s.mpp
    mie := s.mpie
    mpie := true
    mpp := s.cfg.privModes.lowest }

/-- Go to a saved address (`spec/46_priv_csr.md` R443 to R445): what an exception program counter
holds is aligned (`spec/10_state.md` R43). -/
def State.returnTo (s : State) (epc : Word) : State := s.setPc (s.cfg.isa.alignPc epc)

/-! ## Which instructions the machine has -/

/-- Run `k` if the instruction is one of the machine's; otherwise it is illegal
(`spec/30_encoding.md` R121, R122; log 24). -/
def State.listed (s : State) (i : Instr) (k : State → State) : State :=
  if i.wf s.cfg.isa then k s else s.illegal i

/-! ## Control transfer -/

/-- `pc <- target` after the alignment check; `k` makes the other writes of the instruction, which a
failing check suppresses (`spec/10_state.md` R36). -/
def State.transfer (s : State) (target : Word) (k : State → State) : State :=
  if s.cfg.isa.pcAligned (s.xlen.narrow target) then (k s).setPc target
  else s.raise .instructionAddressMisaligned (s.xlen.narrow target)

/-- A conditional branch (`spec/40_rv32i.md` R181): the target is checked only when it is taken. -/
def State.branch (s : State) (taken : Bool) (target : Word) (ilen : Nat) : State :=
  if taken then s.transfer target (fun s => s) else s.advance ilen

/-- A jump that writes the link register (`spec/40_rv32i.md` R187, R188). -/
def State.jumpLink (s : State) (rd : Reg) (target : Word) (ilen : Nat) : State :=
  s.transfer target (fun t => t.writeX rd (s.nextPc ilen))

/-! ## Memory access -/

/-- The addresses of an access of `n` bytes: they wrap at `2^XLEN` (`spec/20_memory.md` R89). -/
def State.accessAddrs (s : State) (ea : Word) (n : Nat) : List Nat :=
  (List.range n).map fun i => (ea.toNat + i) % 2 ^ s.xlen.bits

/-- Some range of `MEM_MAP` holds the address and grants the permission (`spec/20_memory.md` R81;
log 33). -/
def mapAllows (map : List Region) (perm : Region → Bool) (a : Nat) : Bool :=
  map.any fun r => decide (r.lo ≤ a) && decide (a < r.hi) && perm r

/-- The address is readable. -/
def State.canRead (s : State) (a : Nat) : Bool := mapAllows s.cfg.memMap (·.read) a

/-- The address is writable. -/
def State.canWrite (s : State) (a : Nat) : Bool := mapAllows s.cfg.memMap (·.write) a

/-- The address is executable. -/
def State.canExec (s : State) (a : Nat) : Bool := mapAllows s.cfg.memMap (·.exec) a

/-- `ea` is not a multiple of the access size (`spec/20_memory.md` R76). -/
def misaligned (ea : Word) (n : Nat) : Bool := ea.toNat % n != 0

/-- The exception a load raises, if any: alignment first, then permission (`spec/20_memory.md` R72,
R82). -/
def State.loadFault (s : State) (ea : Word) (n : Nat) : Option Exc :=
  if misaligned ea n && s.cfg.misaligned == .fault then some .loadAddressMisaligned
  else if (s.accessAddrs ea n).all s.canRead then none
  else some .loadAccessFault

/-- `MemRead` (`spec/20_memory.md` R72): raise, or go on with the value read, zero-extended. -/
def State.load (s : State) (ea : Word) (n : Nat) (k : Word → State) : State :=
  match s.loadFault ea n with
  | some e => s.raise e ea
  | none => k (s.mem.readLE (s.accessAddrs ea n))

/-- The exception a store raises, if any (`spec/20_memory.md` R73, R82). -/
def State.storeFault (s : State) (ea : Word) (n : Nat) : Option Exc :=
  if misaligned ea n && s.cfg.misaligned == .fault then some .storeAddressMisaligned
  else if (s.accessAddrs ea n).all s.canWrite then none
  else some .storeAccessFault

/-- Write bytes and record their addresses as modified (`spec/20_memory.md` R73, R87). -/
def State.storeBytes (s : State) (addrs : List Nat) (v : Word) : State :=
  { s with mem := s.mem.writeLE addrs v, modified := addAddrs s.modified addrs }

/-- The state in which a store raises: nothing is written (`spec/20_memory.md` R73), but for a
misaligned access split into single bytes, which may have written some of those below the first byte
it may not write (R76). How many is a free value (log 15). -/
def State.storePart (s : State) (ea : Word) (n : Nat) (v : Word) : State :=
  if misaligned ea n && s.cfg.misaligned == .split then
    let below := (s.accessAddrs ea n).takeWhile s.canWrite
    { s.storeBytes (below.take (Config.splitProgress s.draws)) v with draws := s.draws + 1 }
  else s

/-- `MemWrite` (`spec/20_memory.md` R73), then the sequential advance; or raise. -/
def State.store (s : State) (ea : Word) (n : Nat) (v : Word) (ilen : Nat) : State :=
  match s.storeFault ea n with
  | none => (s.storeBytes (s.accessAddrs ea n) v).advance ilen
  | some e => (s.storePart ea n v).raise e ea

end Sys2Proof.Machine
end

