-- ==== Sys2Proof/Machine/Operands.lean ====
section
/-! DEFINITION. The operand forms: immediates, effective addresses and targets, and the shapes that
several instructions share. -/

namespace Sys2Proof.Machine

/-! ## Immediates (`spec/30_encoding.md` R110 to R116, R128) -/

/-- `sext(imm12)` of I- and S-type (R110, R111). -/
def immI (imm : BitVec 12) : Word := sext imm

/-- The offset of a branch from `imm[12:1]` (R112). -/
def immB (imm : BitVec 12) : Word := sext (imm ++ 0#1)

/-- `{upimm, 12'b0}`, sign-extended (R113). -/
def immU (upimm : BitVec 20) : Word := sext (upimm ++ 0#12)

/-- The offset of `jal` from `imm[20:1]` (R114). -/
def immJ (imm : BitVec 20) : Word := sext (imm ++ 0#1)

/-- The byte offset of `c.addi4spn`: `ZeroExt(imm)*4` (R128). -/
def immCiw (imm : BitVec 8) : Word := zext (imm ++ 0#2)

/-- The byte offset of `c.lw` and its like: `ZeroExt(imm)*4` (R128). -/
def immCw (imm : BitVec 5) : Word := zext (imm ++ 0#2)

/-- The byte offset of `c.fld`, `c.fsd`: `ZeroExt(imm)*8` (R128). -/
def immCd (imm : BitVec 5) : Word := zext (imm ++ 0#3)

/-- `SignExt(imm)` of a 6-bit immediate (R128). -/
def immC6 (imm : BitVec 6) : Word := sext imm

/-- The value of `c.lui`: `{14{imm[5]}, imm, 12'b0}` (R128). -/
def immCLui (imm : BitVec 6) : Word := immU (imm.signExtend 20)

/-- The value of `c.addi16sp`: `SignExt(imm)*16` (R128). -/
def immC16sp (imm : BitVec 6) : Word := sext (imm ++ 0#4)

/-- The offset of `c.jal`, `c.j` (R128). -/
def immCj (imm : BitVec 11) : Word := sext (imm ++ 0#1)

/-- The offset of `c.beqz`, `c.bnez` (R128). -/
def immCb (imm : BitVec 8) : Word := sext (imm ++ 0#1)

/-- The byte offset of a word on the stack: `ZeroExt(imm)*4` (R128). -/
def immCwsp (imm : BitVec 6) : Word := zext (imm ++ 0#2)

/-- The byte offset of a doubleword on the stack: `ZeroExt(imm)*8` (R128). -/
def immCdsp (imm : BitVec 6) : Word := zext (imm ++ 0#3)

/-! ## Addresses -/

/-- The effective address: base register plus offset, modulo `2^XLEN` (`spec/20_memory.md` R89). -/
def State.ea (s : State) (rs1 : Reg) (off : Word) : Word := s.xlen.narrow (s.readX rs1 + off)

/-- An address relative to the instruction, modulo `2^XLEN` (`spec/10_state.md` R34, R37). -/
def State.pcRel (s : State) (off : Word) : Word := s.xlen.narrow (s.pc + off)

/-- The target of an indirect jump: bit 0 of the sum is cleared (`spec/40_rv32i.md` R187). -/
def State.indirect (s : State) (rs1 : Reg) (off : Word) : Word := s.ea rs1 off &&& ~~~1#64

/-! ## Shapes -/

/-- `x[rd] <- v`, then the sequential advance. -/
def State.setRd (s : State) (rd : Reg) (v : Word) (ilen : Nat) : State :=
  (s.writeX rd v).advance ilen

/-- `x[rd] <- x[rs1] op v` at `XLEN` bits. -/
def State.aluImm (s : State) (op : (w : Nat) → BitVec w → BitVec w → BitVec w) (rd rs1 : Reg)
    (v : Word) (ilen : Nat) : State :=
  s.setRd rd (s.xlen.lift2 op (s.readX rs1) v) ilen

/-- `x[rd] <- x[rs1] op x[rs2]` at `XLEN` bits. -/
def State.aluReg (s : State) (op : (w : Nat) → BitVec w → BitVec w → BitVec w)
    (rd rs1 rs2 : Reg) (ilen : Nat) : State :=
  s.aluImm op rd rs1 (s.readX rs2) ilen

/-- `x[rd] <- sext_64(x[rs1][31:0] op v[31:0])`: the word instructions (`spec/41_rv64i.md` R200). -/
def State.aluWord (s : State) (op : (w : Nat) → BitVec w → BitVec w → BitVec w) (rd rs1 : Reg)
    (v : Word) (ilen : Nat) : State :=
  s.setRd rd (sext (op 32 (low32 (s.readX rs1)) (low32 v))) ilen

/-- Load `n` bytes into `x[rd]`, after `ext` (`spec/40_rv32i.md` R151). -/
def State.loadX (s : State) (rd : Reg) (ea : Word) (n : Nat) (ext : Word → Word) (ilen : Nat) :
    State :=
  s.load ea n fun v => s.setRd rd (ext v) ilen

/-- Sign extension of the low 8 bits. -/
def sextByte (v : Word) : Word := sext (v.setWidth 8)

/-- Sign extension of the low 16 bits. -/
def sextHalf (v : Word) : Word := sext (v.setWidth 16)

/-- Sign extension of the low 32 bits. -/
def sextWord (v : Word) : Word := sext (low32 v)

/-- A branch that compares two registers at `XLEN` bits (`spec/40_rv32i.md` R181 to R186). -/
def State.branchCmp (s : State) (op : (w : Nat) → BitVec w → BitVec w → Bool) (rs1 rs2 : Reg)
    (off : Word) (ilen : Nat) : State :=
  s.branch (s.xlen.cmp op (s.readX rs1) (s.readX rs2)) (s.pcRel off) ilen

end Sys2Proof.Machine
end

