-- ==== Sys2Proof/Machine/Rv32i.lean ====
section
/-! DEFINITION. The meanings of Table B.1 (`spec/40_rv32i.md`). Rules are those of that file. A
shift by an immediate is guarded because only some of its operands are instructions of a 32-bit
machine (R158, `spec/30_encoding.md` R123). -/

namespace Sys2Proof.Machine

/-- `lb` (R152). -/
def execLb (rd rs1 : Reg) (imm : BitVec 12) (s : State) : Result :=
  .next (s.loadX rd (s.ea rs1 (immI imm)) 1 sextByte 4)

/-- `lh` (R153). -/
def execLh (rd rs1 : Reg) (imm : BitVec 12) (s : State) : Result :=
  .next (s.loadX rd (s.ea rs1 (immI imm)) 2 sextHalf 4)

/-- `lw` (R154). -/
def execLw (rd rs1 : Reg) (imm : BitVec 12) (s : State) : Result :=
  .next (s.loadX rd (s.ea rs1 (immI imm)) 4 sextWord 4)

/-- `lbu` (R155). -/
def execLbu (rd rs1 : Reg) (imm : BitVec 12) (s : State) : Result :=
  .next (s.loadX rd (s.ea rs1 (immI imm)) 1 (fun v => v) 4)

/-- `lhu` (R156). -/
def execLhu (rd rs1 : Reg) (imm : BitVec 12) (s : State) : Result :=
  .next (s.loadX rd (s.ea rs1 (immI imm)) 2 (fun v => v) 4)

/-- `addi` (R157). -/
def execAddi (rd rs1 : Reg) (imm : BitVec 12) (s : State) : Result :=
  .next (s.aluImm aluAdd rd rs1 (immI imm) 4)

/-- `slli` (R158). -/
def execSlli (rd rs1 : Reg) (shamt : BitVec 6) (s : State) : Result :=
  .next (s.listed (.slli rd rs1 shamt) fun s => s.aluImm aluSll rd rs1 (zext shamt) 4)

/-- `slti` (R159). -/
def execSlti (rd rs1 : Reg) (imm : BitVec 12) (s : State) : Result :=
  .next (s.aluImm aluSlt rd rs1 (immI imm) 4)

/-- `sltiu` (R160). -/
def execSltiu (rd rs1 : Reg) (imm : BitVec 12) (s : State) : Result :=
  .next (s.aluImm aluSltu rd rs1 (immI imm) 4)

/-- `xori` (R161). -/
def execXori (rd rs1 : Reg) (imm : BitVec 12) (s : State) : Result :=
  .next (s.aluImm aluXor rd rs1 (immI imm) 4)

/-- `srli` (R162). -/
def execSrli (rd rs1 : Reg) (shamt : BitVec 6) (s : State) : Result :=
  .next (s.listed (.srli rd rs1 shamt) fun s => s.aluImm aluSrl rd rs1 (zext shamt) 4)

/-- `srai` (R163). -/
def execSrai (rd rs1 : Reg) (shamt : BitVec 6) (s : State) : Result :=
  .next (s.listed (.srai rd rs1 shamt) fun s => s.aluImm aluSra rd rs1 (zext shamt) 4)

/-- `ori` (R164). -/
def execOri (rd rs1 : Reg) (imm : BitVec 12) (s : State) : Result :=
  .next (s.aluImm aluOr rd rs1 (immI imm) 4)

/-- `andi` (R165). -/
def execAndi (rd rs1 : Reg) (imm : BitVec 12) (s : State) : Result :=
  .next (s.aluImm aluAnd rd rs1 (immI imm) 4)

/-- `auipc` (R166). -/
def execAuipc (rd : Reg) (upimm : BitVec 20) (s : State) : Result :=
  .next (s.setRd rd (s.pcRel (immU upimm)) 4)

/-- `sb` (R167). -/
def execSb (rs2 rs1 : Reg) (imm : BitVec 12) (s : State) : Result :=
  .next (s.store (s.ea rs1 (immI imm)) 1 (s.readX rs2) 4)

/-- `sh` (R168). -/
def execSh (rs2 rs1 : Reg) (imm : BitVec 12) (s : State) : Result :=
  .next (s.store (s.ea rs1 (immI imm)) 2 (s.readX rs2) 4)

/-- `sw` (R169). -/
def execSw (rs2 rs1 : Reg) (imm : BitVec 12) (s : State) : Result :=
  .next (s.store (s.ea rs1 (immI imm)) 4 (s.readX rs2) 4)

/-- `add` (R170). -/
def execAdd (rd rs1 rs2 : Reg) (s : State) : Result :=
  .next (s.aluReg aluAdd rd rs1 rs2 4)

/-- `sub` (R171). -/
def execSub (rd rs1 rs2 : Reg) (s : State) : Result :=
  .next (s.aluReg aluSub rd rs1 rs2 4)

/-- `sll` (R172). -/
def execSll (rd rs1 rs2 : Reg) (s : State) : Result :=
  .next (s.aluReg aluSll rd rs1 rs2 4)

/-- `slt` (R173). -/
def execSlt (rd rs1 rs2 : Reg) (s : State) : Result :=
  .next (s.aluReg aluSlt rd rs1 rs2 4)

/-- `sltu` (R174). -/
def execSltu (rd rs1 rs2 : Reg) (s : State) : Result :=
  .next (s.aluReg aluSltu rd rs1 rs2 4)

/-- `xor` (R175). -/
def execXor (rd rs1 rs2 : Reg) (s : State) : Result :=
  .next (s.aluReg aluXor rd rs1 rs2 4)

/-- `srl` (R176). -/
def execSrl (rd rs1 rs2 : Reg) (s : State) : Result :=
  .next (s.aluReg aluSrl rd rs1 rs2 4)

/-- `sra` (R177). -/
def execSra (rd rs1 rs2 : Reg) (s : State) : Result :=
  .next (s.aluReg aluSra rd rs1 rs2 4)

/-- `or` (R178). -/
def execOr (rd rs1 rs2 : Reg) (s : State) : Result :=
  .next (s.aluReg aluOr rd rs1 rs2 4)

/-- `and` (R179). -/
def execAnd (rd rs1 rs2 : Reg) (s : State) : Result :=
  .next (s.aluReg aluAnd rd rs1 rs2 4)

/-- `lui` (R180). -/
def execLui (rd : Reg) (upimm : BitVec 20) (s : State) : Result :=
  .next (s.setRd rd (immU upimm) 4)

/-- `beq` (R181). -/
def execBeq (rs1 rs2 : Reg) (imm : BitVec 12) (s : State) : Result :=
  .next (s.branchCmp cmpEq rs1 rs2 (immB imm) 4)

/-- `bne` (R182). -/
def execBne (rs1 rs2 : Reg) (imm : BitVec 12) (s : State) : Result :=
  .next (s.branchCmp cmpNe rs1 rs2 (immB imm) 4)

/-- `blt` (R183). -/
def execBlt (rs1 rs2 : Reg) (imm : BitVec 12) (s : State) : Result :=
  .next (s.branchCmp cmpLt rs1 rs2 (immB imm) 4)

/-- `bge` (R184). -/
def execBge (rs1 rs2 : Reg) (imm : BitVec 12) (s : State) : Result :=
  .next (s.branchCmp cmpGe rs1 rs2 (immB imm) 4)

/-- `bltu` (R185). -/
def execBltu (rs1 rs2 : Reg) (imm : BitVec 12) (s : State) : Result :=
  .next (s.branchCmp cmpLtu rs1 rs2 (immB imm) 4)

/-- `bgeu` (R186). -/
def execBgeu (rs1 rs2 : Reg) (imm : BitVec 12) (s : State) : Result :=
  .next (s.branchCmp cmpGeu rs1 rs2 (immB imm) 4)

/-- `jalr` (R187). -/
def execJalr (rd rs1 : Reg) (imm : BitVec 12) (s : State) : Result :=
  .next (s.jumpLink rd (s.indirect rs1 (immI imm)) 4)

/-- `jal` (R188). -/
def execJal (rd : Reg) (imm : BitVec 20) (s : State) : Result :=
  .next (s.jumpLink rd (s.pcRel (immJ imm)) 4)

end Sys2Proof.Machine
end

