-- ==== Sys2Proof/Machine/Rv64i.lean ====
section
/-! DEFINITION. The meanings of Table B.2 (`spec/41_rv64i.md`). Rules are those of that file. -/

namespace Sys2Proof.Machine

/-- `ld` (R201). -/
def execLd (rd rs1 : Reg) (imm : BitVec 12) (s : State) : Result :=
  .next (s.listed (.ld rd rs1 imm) fun s => s.loadX rd (s.ea rs1 (immI imm)) 8 (fun v => v) 4)

/-- `lwu` (R202). -/
def execLwu (rd rs1 : Reg) (imm : BitVec 12) (s : State) : Result :=
  .next (s.listed (.lwu rd rs1 imm) fun s => s.loadX rd (s.ea rs1 (immI imm)) 4 (fun v => v) 4)

/-- `addiw` (R203). -/
def execAddiw (rd rs1 : Reg) (imm : BitVec 12) (s : State) : Result :=
  .next (s.listed (.addiw rd rs1 imm) fun s => s.aluWord aluAdd rd rs1 (immI imm) 4)

/-- `slliw` (R204). -/
def execSlliw (rd rs1 : Reg) (shamt : BitVec 5) (s : State) : Result :=
  .next (s.listed (.slliw rd rs1 shamt) fun s => s.aluWord aluSll rd rs1 (zext shamt) 4)

/-- `srliw` (R205). -/
def execSrliw (rd rs1 : Reg) (shamt : BitVec 5) (s : State) : Result :=
  .next (s.listed (.srliw rd rs1 shamt) fun s => s.aluWord aluSrl rd rs1 (zext shamt) 4)

/-- `sraiw` (R206). -/
def execSraiw (rd rs1 : Reg) (shamt : BitVec 5) (s : State) : Result :=
  .next (s.listed (.sraiw rd rs1 shamt) fun s => s.aluWord aluSra rd rs1 (zext shamt) 4)

/-- `sd` (R207). -/
def execSd (rs2 rs1 : Reg) (imm : BitVec 12) (s : State) : Result :=
  .next (s.listed (.sd rs2 rs1 imm) fun s => s.store (s.ea rs1 (immI imm)) 8 (s.readX rs2) 4)

/-- `addw` (R208). -/
def execAddw (rd rs1 rs2 : Reg) (s : State) : Result :=
  .next (s.listed (.addw rd rs1 rs2) fun s => s.aluWord aluAdd rd rs1 (s.readX rs2) 4)

/-- `subw` (R209). -/
def execSubw (rd rs1 rs2 : Reg) (s : State) : Result :=
  .next (s.listed (.subw rd rs1 rs2) fun s => s.aluWord aluSub rd rs1 (s.readX rs2) 4)

/-- `sllw` (R210). -/
def execSllw (rd rs1 rs2 : Reg) (s : State) : Result :=
  .next (s.listed (.sllw rd rs1 rs2) fun s => s.aluWord aluSll rd rs1 (s.readX rs2) 4)

/-- `srlw` (R211). -/
def execSrlw (rd rs1 rs2 : Reg) (s : State) : Result :=
  .next (s.listed (.srlw rd rs1 rs2) fun s => s.aluWord aluSrl rd rs1 (s.readX rs2) 4)

/-- `sraw` (R212). -/
def execSraw (rd rs1 rs2 : Reg) (s : State) : Result :=
  .next (s.listed (.sraw rd rs1 rs2) fun s => s.aluWord aluSra rd rs1 (s.readX rs2) 4)

end Sys2Proof.Machine
end

