-- ==== Sys2Proof/Machine/FpNumerics.lean ====
section
/-! DEFINITION. `FP_NUMERICS` (`spec/42_rvfd.md` R234): the record of functions, and the reference
instance, IEEE 754-2008 arithmetic as R234 describes it, on bit patterns held as natural numbers. Each
function of that computes the exact result as a mantissa and a power of two and rounds it once
(log 16). -/

namespace Sys2Proof.Machine

/-! ## Flags of a result -/

/-- A set of `{NV, DZ, OF, UF, NX}`, in the bit order of `fflags` (R233). -/
abbrev FlagSet := BitVec 5

/-- Invalid operation. -/
def flagNV : FlagSet := 0x10#5

/-- Divide by zero. -/
def flagDZ : FlagSet := 0x08#5

/-- Overflow. -/
def flagOF : FlagSet := 0x04#5

/-- Underflow. -/
def flagUF : FlagSet := 0x02#5

/-- Inexact. -/
def flagNX : FlagSet := 0x01#5

/-- The flag if the condition holds. -/
def flagIf (c : Bool) (f : FlagSet) : FlagSet := if c then f else 0#5

/-! ## Formats -/

/-- A precision: `P` of R234. -/
inductive Prec where
  | single
  | double
deriving DecidableEq, Repr

/-- Exponent bits. -/
def Prec.ebits : Prec → Nat
  | .single => 8
  | .double => 11

/-- Fraction bits. -/
def Prec.fbits : Prec → Nat
  | .single => 23
  | .double => 52

/-- The exponent bias. -/
def Prec.bias (p : Prec) : Int := 2 ^ (p.ebits - 1) - 1

/-- The weight of the sign bit. -/
def Prec.signBit (p : Prec) : Nat := 2 ^ (p.ebits + p.fbits)

/-- The exponent field of infinities and NaNs. -/
def Prec.expMax (p : Prec) : Nat := 2 ^ p.ebits - 1

/-- The magnitude of an infinity. -/
def Prec.infMag (p : Prec) : Nat := p.expMax * 2 ^ p.fbits

/-- The canonical NaN: `0x7fc00000` or `0x7ff8000000000000`. -/
def Prec.canonicalNaN (p : Prec) : Nat := p.infMag + 2 ^ (p.fbits - 1)

/-- The exponent of the smallest normal number. -/
def Prec.emin (p : Prec) : Int := 1 - p.bias

/-- The exponent of the last place of a subnormal number. -/
def Prec.qmin (p : Prec) : Int := p.emin - p.fbits

/-- What a bit pattern denotes: a finite value is `(-1)^neg * mant * 2^exp`. -/
inductive FpVal where
  | nan (signaling : Bool)
  | inf (neg : Bool)
  | finite (neg : Bool) (mant : Nat) (exp : Int)
deriving DecidableEq, Repr

/-- The sign bit of a pattern. -/
def Prec.negOf (p : Prec) (v : Nat) : Bool := v / p.signBit % 2 == 1

/-- A pattern without its sign bit. -/
def Prec.magOf (p : Prec) (v : Nat) : Nat := v % p.signBit

/-- The value of a pattern (R234, formats). -/
def Prec.unpack (p : Prec) (v : Nat) : FpVal :=
  let neg := p.negOf v
  let e := p.magOf v / 2 ^ p.fbits
  let m := p.magOf v % 2 ^ p.fbits
  if e = p.expMax then
    if m = 0 then .inf neg else .nan (m / 2 ^ (p.fbits - 1) == 0)
  else if e = 0 then .finite neg m p.qmin
  else .finite neg (m + 2 ^ p.fbits) (p.qmin + (e - 1))

/-- The pattern of a sign and a magnitude. -/
def Prec.withSign (p : Prec) (neg : Bool) (mag : Nat) : Nat := if neg then p.signBit + mag else mag

/-- A signaling NaN. -/
def FpVal.isSignaling : FpVal → Bool
  | .nan s => s
  | .inf _ | .finite _ _ _ => false

/-- Any NaN. -/
def FpVal.isNaN : FpVal → Bool
  | .nan _ => true
  | .inf _ | .finite _ _ _ => false

/-! ## Rounding -/

/-- Is the magnitude rounded away from zero? `r` of `whole` is what is cut off, `odd` the parity of
what is kept (R231: ties to even, toward zero, down, up, ties to the larger magnitude). -/
def roundsAway (mode : RoundMode) (neg odd : Bool) (r whole : Nat) : Bool :=
  match mode with
  | .rne => decide (whole < 2 * r) || (decide (2 * r = whole) && odd)
  | .rtz => false
  | .rdn => neg && decide (r ≠ 0)
  | .rup => !neg && decide (r ≠ 0)
  | .rmm => decide (whole ≤ 2 * r)

/-- `mant * 2^exp` as a multiple of `2^q`, rounded, and whether that lost anything. -/
def roundAt (mode : RoundMode) (neg : Bool) (mant : Nat) (exp q : Int) : Nat × Bool :=
  if q ≤ exp then (mant * 2 ^ (exp - q).toNat, false)
  else
    let whole := 2 ^ (q - exp).toNat
    let m := mant / whole
    let r := mant % whole
    (if roundsAway mode neg (m % 2 == 1) r whole then m + 1 else m, r != 0)

/-- The magnitude of an overflowing result (R234, OF). -/
def Prec.overflowMag (p : Prec) (mode : RoundMode) (neg : Bool) : Nat :=
  match mode with
  | .rne | .rmm => p.infMag
  | .rtz => p.infMag - 1
  | .rdn => if neg then p.infMag else p.infMag - 1
  | .rup => if neg then p.infMag - 1 else p.infMag

/-- Round a non-zero `mant * 2^exp` to the format, with OF, UF, NX (R234). Tininess is detected after
rounding: the value rounded as if the exponent had no lower bound is below the smallest normal. -/
def Prec.round (p : Prec) (mode : RoundMode) (neg : Bool) (mant : Nat) (exp : Int) :
    Nat × FlagSet :=
  let lead := exp + mant.log2
  let q := max (lead - p.fbits) p.qmin
  let (m, inexact) := roundAt mode neg mant exp q
  let mag := (q - p.qmin).toNat * 2 ^ p.fbits + m
  if p.infMag ≤ mag then (p.withSign neg (p.overflowMag mode neg), flagOF ||| flagNX)
  else
    let free := (roundAt mode neg mant exp (lead - p.fbits)).1
    let tiny := decide (lead < p.emin) &&
      !(decide (lead + 1 = p.emin) && free == 2 ^ (p.fbits + 1))
    (p.withSign neg mag, flagIf inexact flagNX ||| flagIf (inexact && tiny) flagUF)

/-- Round `mant * 2^exp`; an exact zero has the given sign. -/
def Prec.roundOrZero (p : Prec) (mode : RoundMode) (neg : Bool) (mant : Nat) (exp : Int) :
    Nat × FlagSet :=
  if mant = 0 then (p.withSign neg 0, 0#5) else p.round mode neg mant exp

/-- A NaN result: the canonical NaN, with NV if a signaling operand or an invalid operation made it
(R234, NaN results). -/
def Prec.nanResult (p : Prec) (invalid : Bool) : Nat × FlagSet :=
  (p.canonicalNaN, flagIf invalid flagNV)

/-- An infinity, no flag. -/
def Prec.infResult (p : Prec) (neg : Bool) : Nat × FlagSet := (p.withSign neg p.infMag, 0#5)

/-! ## Arithmetic -/

/-- A signed mantissa. -/
def signedMant (neg : Bool) (mant : Nat) : Int := if neg then -(mant : Int) else mant

/-- The sum of two finite values, rounded once. An exact zero sum of opposite signs is `+0`, or `-0`
under `RDN` (R234). -/
def Prec.addFinite (p : Prec) (mode : RoundMode) (n1 : Bool) (m1 : Nat) (e1 : Int) (n2 : Bool)
    (m2 : Nat) (e2 : Int) : Nat × FlagSet :=
  let e := min e1 e2
  let v := signedMant n1 (m1 * 2 ^ (e1 - e).toNat) + signedMant n2 (m2 * 2 ^ (e2 - e).toNat)
  if v = 0 then (p.withSign (if n1 = n2 then n1 else mode == .rdn) 0, 0#5)
  else p.round mode (decide (v < 0)) v.natAbs e

/-- `neg_P`: flip the sign bit. -/
def Prec.neg (p : Prec) (a : Nat) : Nat := p.withSign (!p.negOf a) (p.magOf a)

/-- `add_P`. -/
def Prec.add (p : Prec) (mode : RoundMode) (a b : Nat) : Nat × FlagSet :=
  match p.unpack a, p.unpack b with
  | .nan s, y => p.nanResult (s || y.isSignaling)
  | .inf _, .nan s => p.nanResult s
  | .finite _ _ _, .nan s => p.nanResult s
  | .inf n, .inf m => if n = m then p.infResult n else p.nanResult true
  | .inf n, .finite _ _ _ => p.infResult n
  | .finite _ _ _, .inf m => p.infResult m
  | .finite n1 m1 e1, .finite n2 m2 e2 => p.addFinite mode n1 m1 e1 n2 m2 e2

/-- `sub_P`. -/
def Prec.sub (p : Prec) (mode : RoundMode) (a b : Nat) : Nat × FlagSet := p.add mode a (p.neg b)

/-- `mul_P`. -/
def Prec.mul (p : Prec) (mode : RoundMode) (a b : Nat) : Nat × FlagSet :=
  match p.unpack a, p.unpack b with
  | .nan s, y => p.nanResult (s || y.isSignaling)
  | .inf _, .nan s => p.nanResult s
  | .finite _ _ _, .nan s => p.nanResult s
  | .inf n, .inf m => p.infResult (n != m)
  | .inf n, .finite n2 m2 _ => if m2 = 0 then p.nanResult true else p.infResult (n != n2)
  | .finite n1 m1 _, .inf m => if m1 = 0 then p.nanResult true else p.infResult (n1 != m)
  | .finite n1 m1 e1, .finite n2 m2 e2 => p.roundOrZero mode (n1 != n2) (m1 * m2) (e1 + e2)

/-- `div_P`. The quotient is cut off well below the last place; a remainder sets one more bit. -/
def Prec.div (p : Prec) (mode : RoundMode) (a b : Nat) : Nat × FlagSet :=
  match p.unpack a, p.unpack b with
  | .nan s, y => p.nanResult (s || y.isSignaling)
  | .inf _, .nan s => p.nanResult s
  | .finite _ _ _, .nan s => p.nanResult s
  | .inf _, .inf _ => p.nanResult true
  | .inf n, .finite n2 _ _ => p.infResult (n != n2)
  | .finite n1 _ _, .inf m => (p.withSign (n1 != m) 0, 0#5)
  | .finite n1 m1 e1, .finite n2 m2 e2 =>
    if m2 = 0 then
      if m1 = 0 then p.nanResult true else (p.withSign (n1 != n2) p.infMag, flagDZ)
    else
      let k := p.fbits + 4 + m2.log2
      let num := m1 * 2 ^ k
      p.roundOrZero mode (n1 != n2) (2 * (num / m2) + (if num % m2 = 0 then 0 else 1))
        (e1 - e2 - k - 1)

/-- The integer square root, bit by bit from `2^i` down, of numbers whose root is below
`2^(bits)`. -/
def isqrtFrom (n : Nat) : (bits : Nat) → (root : Nat) → Nat
  | 0, root => root
  | i + 1, root =>
    if (root + 2 ^ i) * (root + 2 ^ i) ≤ n then isqrtFrom n i (root + 2 ^ i)
    else isqrtFrom n i root

/-- The integer square root. -/
def isqrt (n : Nat) : Nat := isqrtFrom n (n.log2 / 2 + 1) 0

/-- `sqrt_P`. The root is cut off well below the last place; a remainder sets one more bit. -/
def Prec.sqrt (p : Prec) (mode : RoundMode) (a : Nat) : Nat × FlagSet :=
  match p.unpack a with
  | .nan s => p.nanResult s
  | .inf neg => if neg then p.nanResult true else p.infResult false
  | .finite neg m e =>
    if m = 0 then (p.withSign neg 0, 0#5)
    else if neg then p.nanResult true
    else
      let k : Nat := 2 * (p.fbits + 4) + (e % 2).toNat
      let num := m * 2 ^ k
      let root := isqrt num
      p.round mode false (2 * root + (if root * root = num then 0 else 1)) ((e - k) / 2 - 1)

/-- `fma_P`: `a * b + c` with one rounding. -/
def Prec.fma (p : Prec) (mode : RoundMode) (a b c : Nat) : Nat × FlagSet :=
  let x := p.unpack a
  let y := p.unpack b
  let z := p.unpack c
  let zeroTimesInf :=
    match x, y with
    | .inf _, .finite _ m _ => m == 0
    | .finite _ m _, .inf _ => m == 0
    | _, _ => false
  if x.isNaN || y.isNaN || z.isNaN || zeroTimesInf then
    p.nanResult (x.isSignaling || y.isSignaling || z.isSignaling || zeroTimesInf)
  else
    let neg := p.negOf a != p.negOf b
    match x, y, z with
    | .finite _ m1 e1, .finite _ m2 e2, .finite n3 m3 e3 =>
      p.addFinite mode neg (m1 * m2) (e1 + e2) n3 m3 e3
    | .finite _ _ _, .finite _ _ _, _ => p.infResult (p.negOf c)
    | _, _, .inf n3 => if neg = n3 then p.infResult neg else p.nanResult true
    | _, _, _ => p.infResult neg

/-! ## Minimum, maximum, comparison, classification -/

/-- A pattern that is no NaN as an integer in the order of the values, `-0` just below `+0`. -/
def Prec.orderKey (p : Prec) (v : Nat) : Int :=
  if p.negOf v then -(p.magOf v : Int) - 1 else p.magOf v

/-- A pattern that is no NaN as an integer in the order of the values, the zeros equal. -/
def Prec.valueKey (p : Prec) (v : Nat) : Int := signedMant (p.negOf v) (p.magOf v)

/-- `min_P` and `max_P`: `first` says whether the first of two numbers is the answer
(`spec/42_rvfd.md` R252, R253). -/
def Prec.pick (p : Prec) (first : Int → Int → Bool) (a b : Nat) : Nat × FlagSet :=
  let x := p.unpack a
  let y := p.unpack b
  (if x.isNaN && y.isNaN then p.canonicalNaN
   else if x.isNaN then b
   else if y.isNaN then a
   else if first (p.orderKey a) (p.orderKey b) then a else b,
   flagIf (x.isSignaling || y.isSignaling) flagNV)

/-- `min_P`. -/
def Prec.min (p : Prec) (a b : Nat) : Nat × FlagSet := p.pick (fun i j => decide (i ≤ j)) a b

/-- `max_P`. -/
def Prec.max (p : Prec) (a b : Nat) : Nat × FlagSet := p.pick (fun i j => decide (j ≤ i)) a b

/-- `eq_P`: a quiet comparison (R254). -/
def Prec.eq (p : Prec) (a b : Nat) : Bool × FlagSet :=
  let x := p.unpack a
  let y := p.unpack b
  (!(x.isNaN || y.isNaN) && decide (p.valueKey a = p.valueKey b),
   flagIf (x.isSignaling || y.isSignaling) flagNV)

/-- `lt_P`: a signaling comparison (R255). -/
def Prec.lt (p : Prec) (a b : Nat) : Bool × FlagSet :=
  let nan := (p.unpack a).isNaN || (p.unpack b).isNaN
  (!nan && decide (p.valueKey a < p.valueKey b), flagIf nan flagNV)

/-- `le_P`: a signaling comparison (R256). -/
def Prec.le (p : Prec) (a b : Nat) : Bool × FlagSet :=
  let nan := (p.unpack a).isNaN || (p.unpack b).isNaN
  (!nan && decide (p.valueKey a ≤ p.valueKey b), flagIf nan flagNV)

/-- `class_P`: the bit of R257. -/
def Prec.classBit (p : Prec) (a : Nat) : Nat :=
  match p.unpack a with
  | .nan true => 8
  | .nan false => 9
  | .inf true => 0
  | .inf false => 7
  | .finite neg m _ =>
    if m = 0 then (if neg then 3 else 4)
    else if m < 2 ^ p.fbits then (if neg then 2 else 5)
    else (if neg then 1 else 6)

/-! ## Conversions -/

/-- `toInt32_P` and `toUInt32_P`: round to an integer by the mode; out of `lo .. hi`, and for a NaN,
saturate with NV (R260, R261). -/
def Prec.toInt (p : Prec) (lo hi : Int) (mode : RoundMode) (a : Nat) : Int × FlagSet :=
  match p.unpack a with
  | .nan _ => (hi, flagNV)
  | .inf neg => (if neg then lo else hi, flagNV)
  | .finite neg m e =>
    let (k, inexact) := roundAt mode neg m e 0
    let i := signedMant neg k
    if i < lo then (lo, flagNV)
    else if hi < i then (hi, flagNV)
    else (i, flagIf inexact flagNX)

/-- `fromInt32_P` and `fromUInt32_P`: zero is `+0` (R262, R263). -/
def Prec.fromInt (p : Prec) (mode : RoundMode) (i : Int) : Nat × FlagSet :=
  p.roundOrZero mode (decide (i < 0)) i.natAbs 0

/-- `StoD` and `DtoS`: convert a pattern of precision `p` to precision `q` (R272, R273). -/
def Prec.convert (p q : Prec) (mode : RoundMode) (a : Nat) : Nat × FlagSet :=
  match p.unpack a with
  | .nan s => q.nanResult s
  | .inf neg => q.infResult neg
  | .finite neg m e => q.roundOrZero mode neg m e

/-! ## The record -/

/-- `FP_NUMERICS` (R234): a record of total functions from operand patterns and a rounding mode to a
result and the flags it raises. -/
structure FpNumerics where
  add : Prec → RoundMode → Nat → Nat → Nat × FlagSet
  sub : Prec → RoundMode → Nat → Nat → Nat × FlagSet
  mul : Prec → RoundMode → Nat → Nat → Nat × FlagSet
  div : Prec → RoundMode → Nat → Nat → Nat × FlagSet
  sqrt : Prec → RoundMode → Nat → Nat × FlagSet
  fma : Prec → RoundMode → Nat → Nat → Nat → Nat × FlagSet
  min : Prec → Nat → Nat → Nat × FlagSet
  max : Prec → Nat → Nat → Nat × FlagSet
  eq : Prec → Nat → Nat → Bool × FlagSet
  lt : Prec → Nat → Nat → Bool × FlagSet
  le : Prec → Nat → Nat → Bool × FlagSet
  classify : Prec → Nat → BitVec 10
  toInt32 : Prec → RoundMode → Nat → BitVec 32 × FlagSet
  toUInt32 : Prec → RoundMode → Nat → BitVec 32 × FlagSet
  fromInt32 : Prec → RoundMode → BitVec 32 → Nat × FlagSet
  fromUInt32 : Prec → RoundMode → BitVec 32 → Nat × FlagSet
  sToD : Nat → Nat × FlagSet
  dToS : RoundMode → Nat → Nat × FlagSet
  neg : Prec → Nat → Nat
deriving Inhabited

/-- A 32-bit pattern of a saturated integer. -/
def toPattern32 (r : Int × FlagSet) : BitVec 32 × FlagSet := (BitVec.ofInt 32 r.1, r.2)

/-- The reference instance (R234). `StoD` is exact, so its mode does not matter (R273). -/
def ieeeNumerics : FpNumerics :=
  { add := Prec.add, sub := Prec.sub, mul := Prec.mul, div := Prec.div, sqrt := Prec.sqrt
    fma := Prec.fma, min := Prec.min, max := Prec.max, eq := Prec.eq, lt := Prec.lt, le := Prec.le
    classify := fun p a => BitVec.ofNat 10 (2 ^ p.classBit a)
    toInt32 := fun p mode a => toPattern32 (p.toInt (-2 ^ 31) (2 ^ 31 - 1) mode a)
    toUInt32 := fun p mode a => toPattern32 (p.toInt 0 (2 ^ 32 - 1) mode a)
    fromInt32 := fun p mode n => p.fromInt mode n.toInt
    fromUInt32 := fun p mode n => p.fromInt mode n.toNat
    sToD := fun a => Prec.single.convert .double .rne a
    dToS := fun mode a => Prec.double.convert .single mode a
    neg := Prec.neg }

/-- FREE VALUE (log 16): the other instances. R234 lets a model take `FP_NUMERICS` as a record of which
nothing is known. -/
opaque otherNumerics : Nat → FpNumerics

/-- The instance that a machine has. -/
def numericsOf (n : Numerics) : FpNumerics :=
  match n with
  | .ieee => ieeeNumerics
  | .other k => otherNumerics k

end Sys2Proof.Machine
end

