-- ==== Sys2Proof/Machine/Flags.lean ====
section
/-! DEFINITION. The accrued floating-point flags, the rounding mode of an instruction, and reading
and writing floating-point operands. There is no integer flag (`spec/10_state.md` R38). -/

namespace Sys2Proof.Machine

/-- The `FP_NUMERICS` of the machine (`spec/42_rvfd.md` R234). -/
def State.numerics (s : State) : FpNumerics := numericsOf s.cfg.numerics

/-- `raiseFlags(s)`: or the raised flags into `fflags` (`spec/42_rvfd.md` R233). -/
def State.raiseFlags (s : State) (f : FlagSet) : State := { s with fflags := s.fflags ||| f }

/-- The mode that a value of `frm` names; 5, 6 and 7 name none (`spec/42_rvfd.md` R231). -/
def frmMode (frm : BitVec 3) : Option RoundMode :=
  match frm with
  | 0#3 => some .rne
  | 1#3 => some .rtz
  | 2#3 => some .rdn
  | 3#3 => some .rup
  | 4#3 => some .rmm
  | _ => none

/-- The rounding mode of an instruction (`spec/42_rvfd.md` R231). -/
def State.resolveRm (s : State) (rm : RmField) : Option RoundMode :=
  match rm with
  | .rne => some .rne
  | .rtz => some .rtz
  | .rdn => some .rdn
  | .rup => some .rup
  | .rmm => some .rmm
  | .dyn => frmMode s.frm

/-- Run `k` with the rounding mode of the instruction `i`, or raise (`spec/42_rvfd.md` R231): the
check comes before every other effect. -/
def State.withRm (s : State) (i : Instr) (rm : RmField) (k : RoundMode → State) : State :=
  match s.resolveRm rm with
  | some mode => k mode
  | none => s.illegal i

/-- `rdS`: a single operand; one that is not NaN-boxed reads as the canonical NaN
(`spec/42_rvfd.md` R232). -/
def State.rdS (s : State) (r : Reg) : BitVec 32 :=
  if s.cfg.isa.flen64 && (s.readF r).extractLsb' 32 32 != BitVec.allOnes 32 then 0x7fc00000#32
  else low32 (s.readF r)

/-- `rawS`: the low 32 bits, unchecked (`spec/42_rvfd.md` R232). -/
def State.rawS (s : State) (r : Reg) : BitVec 32 := low32 (s.readF r)

/-- `rdD` (`spec/42_rvfd.md` R232). -/
def State.rdD (s : State) (r : Reg) : Word := s.readF r

/-- `wrS`: NaN-boxed when `FLEN = 64` (`spec/42_rvfd.md` R233). -/
def State.wrS (s : State) (r : Reg) (v : BitVec 32) : State :=
  s.writeF r (BitVec.allOnes 32 ++ v)

/-- `wrD` (`spec/42_rvfd.md` R233). -/
def State.wrD (s : State) (r : Reg) (v : Word) : State := s.writeF r v

/-- `rdP`, as a pattern of the precision. -/
def State.rdP (s : State) (p : Prec) (r : Reg) : Nat :=
  match p with
  | .single => (s.rdS r).toNat
  | .double => (s.rdD r).toNat

/-- `wrP`. -/
def State.wrP (s : State) (p : Prec) (r : Reg) (v : Nat) : State :=
  match p with
  | .single => s.wrS r (BitVec.ofNat 32 v)
  | .double => s.wrD r (BitVec.ofNat 64 v)

/-- `(r, s) = result; wrP(fd, r); raiseFlags(s)`, then the sequential advance. -/
def State.fpResult (s : State) (p : Prec) (fd : Reg) (res : Nat × FlagSet) : State :=
  ((s.wrP p fd res.1).raiseFlags res.2).advance 4

/-- `x[rd] <- v; raiseFlags(s)`, then the sequential advance. -/
def State.fpToX (s : State) (rd : Reg) (v : Word) (f : FlagSet) : State :=
  ((s.writeX rd v).raiseFlags f).advance 4

end Sys2Proof.Machine
end

