-- ==== Sys2Proof/Machine/Rvfd.lean ====
section
/-! DEFINITION. The meanings of Table B.3 (`spec/42_rvfd.md`). Rules are those of that file. -/

namespace Sys2Proof.Machine

/-! ## Shapes -/

/-- A fused multiply-add: the product negated if `negProd`, the addend if `negAdd` (R240 to
R243). -/
def State.fpFma (s : State) (i : Instr) (p : Prec) (fd fs1 fs2 fs3 : Reg) (rm : RmField)
    (negProd negAdd : Bool) : State :=
  s.withRm i rm fun mode =>
    let n := s.numerics
    let a := s.rdP p fs1
    let c := s.rdP p fs3
    s.fpResult p fd (n.fma p mode (if negProd then n.neg p a else a) (s.rdP p fs2)
      (if negAdd then n.neg p c else c))

/-- Two operands and a rounding mode (R244 to R247). -/
def State.fpArith (s : State) (i : Instr) (p : Prec)
    (op : Prec → RoundMode → Nat → Nat → Nat × FlagSet) (fd fs1 fs2 : Reg) (rm : RmField) : State :=
  s.withRm i rm fun mode => s.fpResult p fd (op p mode (s.rdP p fs1) (s.rdP p fs2))

/-- Square root (R248). -/
def State.fpSqrt (s : State) (i : Instr) (p : Prec) (fd fs1 : Reg) (rm : RmField) : State :=
  s.withRm i rm fun mode => s.fpResult p fd (s.numerics.sqrt p mode (s.rdP p fs1))

/-- Sign injection: the magnitude of the first operand under a sign computed from both signs
(R249 to R251). -/
def State.fpSign (s : State) (p : Prec) (sgn : Bool → Bool → Bool) (fd fs1 fs2 : Reg) : State :=
  let a := s.rdP p fs1
  let b := s.rdP p fs2
  s.fpResult p fd (p.withSign (sgn (p.negOf a) (p.negOf b)) (p.magOf a), 0#5)

/-- Minimum or maximum (R252, R253). -/
def State.fpPick (s : State) (p : Prec) (op : Prec → Nat → Nat → Nat × FlagSet)
    (fd fs1 fs2 : Reg) : State :=
  s.fpResult p fd (op p (s.rdP p fs1) (s.rdP p fs2))

/-- A comparison, 0 or 1 to an integer register (R254 to R256). -/
def State.fpCompare (s : State) (p : Prec) (op : Prec → Nat → Nat → Bool × FlagSet)
    (rd fs1 fs2 : Reg) : State :=
  let r := op p (s.rdP p fs1) (s.rdP p fs2)
  s.fpToX rd (if r.1 then 1#64 else 0#64) r.2

/-- Conversion to a 32-bit integer, sign-extended (R260, R261, R268, R269). -/
def State.fpToInt (s : State) (i : Instr) (p : Prec)
    (op : Prec → RoundMode → Nat → BitVec 32 × FlagSet) (rd fs1 : Reg) (rm : RmField) : State :=
  s.withRm i rm fun mode =>
    let r := op p mode (s.rdP p fs1)
    s.fpToX rd (sext r.1) r.2

/-- Conversion from the low 32 bits of an integer register (R262, R263, R270, R271). -/
def State.fpFromInt (s : State) (i : Instr) (p : Prec)
    (op : Prec → RoundMode → BitVec 32 → Nat × FlagSet) (fd rs1 : Reg) (rm : RmField) : State :=
  s.withRm i rm fun mode => s.fpResult p fd (op p mode (low32 (s.readX rs1)))

/-- Conversion between the precisions (R272, R273). -/
def State.fpConvert (s : State) (i : Instr) (src dst : Prec) (op : RoundMode → Nat → Nat × FlagSet)
    (fd fs1 : Reg) (rm : RmField) : State :=
  s.withRm i rm fun mode => s.fpResult dst fd (op mode (s.rdP src fs1))

/-- Load a single (R258). -/
def State.loadS (s : State) (fd : Reg) (ea : Word) (ilen : Nat) : State :=
  s.load ea 4 fun v => (s.wrS fd (low32 v)).advance ilen

/-- Load a double (R266). -/
def State.loadD (s : State) (fd : Reg) (ea : Word) (ilen : Nat) : State :=
  s.load ea 8 fun v => (s.wrD fd v).advance ilen

/-! ## Meanings -/

/-- `fmadd.s` (R240). -/
def execFmaddS (fd fs1 fs2 fs3 : Reg) (rm : RmField) (s : State) : Result :=
  .next (s.listed (.fmaddS fd fs1 fs2 fs3 rm) fun s =>
    s.fpFma (.fmaddS fd fs1 fs2 fs3 rm) .single fd fs1 fs2 fs3 rm false false)

/-- `fmadd.d` (R240). -/
def execFmaddD (fd fs1 fs2 fs3 : Reg) (rm : RmField) (s : State) : Result :=
  .next (s.listed (.fmaddD fd fs1 fs2 fs3 rm) fun s =>
    s.fpFma (.fmaddD fd fs1 fs2 fs3 rm) .double fd fs1 fs2 fs3 rm false false)

/-- `fmsub.s` (R241). -/
def execFmsubS (fd fs1 fs2 fs3 : Reg) (rm : RmField) (s : State) : Result :=
  .next (s.listed (.fmsubS fd fs1 fs2 fs3 rm) fun s =>
    s.fpFma (.fmsubS fd fs1 fs2 fs3 rm) .single fd fs1 fs2 fs3 rm false true)

/-- `fmsub.d` (R241). -/
def execFmsubD (fd fs1 fs2 fs3 : Reg) (rm : RmField) (s : State) : Result :=
  .next (s.listed (.fmsubD fd fs1 fs2 fs3 rm) fun s =>
    s.fpFma (.fmsubD fd fs1 fs2 fs3 rm) .double fd fs1 fs2 fs3 rm false true)

/-- `fnmsub.s` (R242). -/
def execFnmsubS (fd fs1 fs2 fs3 : Reg) (rm : RmField) (s : State) : Result :=
  .next (s.listed (.fnmsubS fd fs1 fs2 fs3 rm) fun s =>
    s.fpFma (.fnmsubS fd fs1 fs2 fs3 rm) .single fd fs1 fs2 fs3 rm true (s.cfg.fnm == .source))

/-- `fnmsub.d` (R242). -/
def execFnmsubD (fd fs1 fs2 fs3 : Reg) (rm : RmField) (s : State) : Result :=
  .next (s.listed (.fnmsubD fd fs1 fs2 fs3 rm) fun s =>
    s.fpFma (.fnmsubD fd fs1 fs2 fs3 rm) .double fd fs1 fs2 fs3 rm true (s.cfg.fnm == .source))

/-- `fnmadd.s` (R243). -/
def execFnmaddS (fd fs1 fs2 fs3 : Reg) (rm : RmField) (s : State) : Result :=
  .next (s.listed (.fnmaddS fd fs1 fs2 fs3 rm) fun s =>
    s.fpFma (.fnmaddS fd fs1 fs2 fs3 rm) .single fd fs1 fs2 fs3 rm true (s.cfg.fnm == .ratified))

/-- `fnmadd.d` (R243). -/
def execFnmaddD (fd fs1 fs2 fs3 : Reg) (rm : RmField) (s : State) : Result :=
  .next (s.listed (.fnmaddD fd fs1 fs2 fs3 rm) fun s =>
    s.fpFma (.fnmaddD fd fs1 fs2 fs3 rm) .double fd fs1 fs2 fs3 rm true (s.cfg.fnm == .ratified))

/-- `fadd.s` (R244). -/
def execFaddS (fd fs1 fs2 : Reg) (rm : RmField) (s : State) : Result :=
  .next (s.listed (.faddS fd fs1 fs2 rm) fun s =>
    s.fpArith (.faddS fd fs1 fs2 rm) .single s.numerics.add fd fs1 fs2 rm)

/-- `fadd.d` (R244). -/
def execFaddD (fd fs1 fs2 : Reg) (rm : RmField) (s : State) : Result :=
  .next (s.listed (.faddD fd fs1 fs2 rm) fun s =>
    s.fpArith (.faddD fd fs1 fs2 rm) .double s.numerics.add fd fs1 fs2 rm)

/-- `fsub.s` (R245). -/
def execFsubS (fd fs1 fs2 : Reg) (rm : RmField) (s : State) : Result :=
  .next (s.listed (.fsubS fd fs1 fs2 rm) fun s =>
    s.fpArith (.fsubS fd fs1 fs2 rm) .single s.numerics.sub fd fs1 fs2 rm)

/-- `fsub.d` (R245). -/
def execFsubD (fd fs1 fs2 : Reg) (rm : RmField) (s : State) : Result :=
  .next (s.listed (.fsubD fd fs1 fs2 rm) fun s =>
    s.fpArith (.fsubD fd fs1 fs2 rm) .double s.numerics.sub fd fs1 fs2 rm)

/-- `fmul.s` (R246). -/
def execFmulS (fd fs1 fs2 : Reg) (rm : RmField) (s : State) : Result :=
  .next (s.listed (.fmulS fd fs1 fs2 rm) fun s =>
    s.fpArith (.fmulS fd fs1 fs2 rm) .single s.numerics.mul fd fs1 fs2 rm)

/-- `fmul.d` (R246). -/
def execFmulD (fd fs1 fs2 : Reg) (rm : RmField) (s : State) : Result :=
  .next (s.listed (.fmulD fd fs1 fs2 rm) fun s =>
    s.fpArith (.fmulD fd fs1 fs2 rm) .double s.numerics.mul fd fs1 fs2 rm)

/-- `fdiv.s` (R247). -/
def execFdivS (fd fs1 fs2 : Reg) (rm : RmField) (s : State) : Result :=
  .next (s.listed (.fdivS fd fs1 fs2 rm) fun s =>
    s.fpArith (.fdivS fd fs1 fs2 rm) .single s.numerics.div fd fs1 fs2 rm)

/-- `fdiv.d` (R247). -/
def execFdivD (fd fs1 fs2 : Reg) (rm : RmField) (s : State) : Result :=
  .next (s.listed (.fdivD fd fs1 fs2 rm) fun s =>
    s.fpArith (.fdivD fd fs1 fs2 rm) .double s.numerics.div fd fs1 fs2 rm)

/-- `fsqrt.s` (R248). -/
def execFsqrtS (fd fs1 : Reg) (rm : RmField) (s : State) : Result :=
  .next (s.listed (.fsqrtS fd fs1 rm) fun s => s.fpSqrt (.fsqrtS fd fs1 rm) .single fd fs1 rm)

/-- `fsqrt.d` (R248). -/
def execFsqrtD (fd fs1 : Reg) (rm : RmField) (s : State) : Result :=
  .next (s.listed (.fsqrtD fd fs1 rm) fun s => s.fpSqrt (.fsqrtD fd fs1 rm) .double fd fs1 rm)

/-- `fsgnj.s` (R249). -/
def execFsgnjS (fd fs1 fs2 : Reg) (s : State) : Result :=
  .next (s.listed (.fsgnjS fd fs1 fs2) fun s => s.fpSign .single (fun _ b => b) fd fs1 fs2)

/-- `fsgnj.d` (R249). -/
def execFsgnjD (fd fs1 fs2 : Reg) (s : State) : Result :=
  .next (s.listed (.fsgnjD fd fs1 fs2) fun s => s.fpSign .double (fun _ b => b) fd fs1 fs2)

/-- `fsgnjn.s` (R250). -/
def execFsgnjnS (fd fs1 fs2 : Reg) (s : State) : Result :=
  .next (s.listed (.fsgnjnS fd fs1 fs2) fun s => s.fpSign .single (fun _ b => !b) fd fs1 fs2)

/-- `fsgnjn.d` (R250). -/
def execFsgnjnD (fd fs1 fs2 : Reg) (s : State) : Result :=
  .next (s.listed (.fsgnjnD fd fs1 fs2) fun s => s.fpSign .double (fun _ b => !b) fd fs1 fs2)

/-- `fsgnjx.s` (R251). -/
def execFsgnjxS (fd fs1 fs2 : Reg) (s : State) : Result :=
  .next (s.listed (.fsgnjxS fd fs1 fs2) fun s => s.fpSign .single (fun a b => a != b) fd fs1 fs2)

/-- `fsgnjx.d` (R251). -/
def execFsgnjxD (fd fs1 fs2 : Reg) (s : State) : Result :=
  .next (s.listed (.fsgnjxD fd fs1 fs2) fun s => s.fpSign .double (fun a b => a != b) fd fs1 fs2)

/-- `fmin.s` (R252). -/
def execFminS (fd fs1 fs2 : Reg) (s : State) : Result :=
  .next (s.listed (.fminS fd fs1 fs2) fun s => s.fpPick .single s.numerics.min fd fs1 fs2)

/-- `fmin.d` (R252). -/
def execFminD (fd fs1 fs2 : Reg) (s : State) : Result :=
  .next (s.listed (.fminD fd fs1 fs2) fun s => s.fpPick .double s.numerics.min fd fs1 fs2)

/-- `fmax.s` (R253). -/
def execFmaxS (fd fs1 fs2 : Reg) (s : State) : Result :=
  .next (s.listed (.fmaxS fd fs1 fs2) fun s => s.fpPick .single s.numerics.max fd fs1 fs2)

/-- `fmax.d` (R253). -/
def execFmaxD (fd fs1 fs2 : Reg) (s : State) : Result :=
  .next (s.listed (.fmaxD fd fs1 fs2) fun s => s.fpPick .double s.numerics.max fd fs1 fs2)

/-- `feq.s` (R254). -/
def execFeqS (rd fs1 fs2 : Reg) (s : State) : Result :=
  .next (s.listed (.feqS rd fs1 fs2) fun s => s.fpCompare .single s.numerics.eq rd fs1 fs2)

/-- `feq.d` (R254). -/
def execFeqD (rd fs1 fs2 : Reg) (s : State) : Result :=
  .next (s.listed (.feqD rd fs1 fs2) fun s => s.fpCompare .double s.numerics.eq rd fs1 fs2)

/-- `flt.s` (R255). -/
def execFltS (rd fs1 fs2 : Reg) (s : State) : Result :=
  .next (s.listed (.fltS rd fs1 fs2) fun s => s.fpCompare .single s.numerics.lt rd fs1 fs2)

/-- `flt.d` (R255). -/
def execFltD (rd fs1 fs2 : Reg) (s : State) : Result :=
  .next (s.listed (.fltD rd fs1 fs2) fun s => s.fpCompare .double s.numerics.lt rd fs1 fs2)

/-- `fle.s` (R256). -/
def execFleS (rd fs1 fs2 : Reg) (s : State) : Result :=
  .next (s.listed (.fleS rd fs1 fs2) fun s => s.fpCompare .single s.numerics.le rd fs1 fs2)

/-- `fle.d` (R256). -/
def execFleD (rd fs1 fs2 : Reg) (s : State) : Result :=
  .next (s.listed (.fleD rd fs1 fs2) fun s => s.fpCompare .double s.numerics.le rd fs1 fs2)

/-- `fclass.s` (R257). -/
def execFclassS (rd fs1 : Reg) (s : State) : Result :=
  .next (s.listed (.fclassS rd fs1) fun s =>
    s.fpToX rd (zext (s.numerics.classify .single (s.rdP .single fs1))) 0#5)

/-- `fclass.d` (R257). -/
def execFclassD (rd fs1 : Reg) (s : State) : Result :=
  .next (s.listed (.fclassD rd fs1) fun s =>
    s.fpToX rd (zext (s.numerics.classify .double (s.rdP .double fs1))) 0#5)

/-- `flw` (R258). -/
def execFlw (fd rs1 : Reg) (imm : BitVec 12) (s : State) : Result :=
  .next (s.listed (.flw fd rs1 imm) fun s => s.loadS fd (s.ea rs1 (immI imm)) 4)

/-- `fsw` (R259). -/
def execFsw (fs2 rs1 : Reg) (imm : BitVec 12) (s : State) : Result :=
  .next (s.listed (.fsw fs2 rs1 imm) fun s => s.store (s.ea rs1 (immI imm)) 4 (zext (s.rawS fs2)) 4)

/-- `fcvt.w.s` (R260). -/
def execFcvtWS (rd fs1 : Reg) (rm : RmField) (s : State) : Result :=
  .next (s.listed (.fcvtWS rd fs1 rm) fun s =>
    s.fpToInt (.fcvtWS rd fs1 rm) .single s.numerics.toInt32 rd fs1 rm)

/-- `fcvt.wu.s` (R261). -/
def execFcvtWuS (rd fs1 : Reg) (rm : RmField) (s : State) : Result :=
  .next (s.listed (.fcvtWuS rd fs1 rm) fun s =>
    s.fpToInt (.fcvtWuS rd fs1 rm) .single s.numerics.toUInt32 rd fs1 rm)

/-- `fcvt.s.w` (R262). -/
def execFcvtSW (fd rs1 : Reg) (rm : RmField) (s : State) : Result :=
  .next (s.listed (.fcvtSW fd rs1 rm) fun s =>
    s.fpFromInt (.fcvtSW fd rs1 rm) .single s.numerics.fromInt32 fd rs1 rm)

/-- `fcvt.s.wu` (R263). -/
def execFcvtSWu (fd rs1 : Reg) (rm : RmField) (s : State) : Result :=
  .next (s.listed (.fcvtSWu fd rs1 rm) fun s =>
    s.fpFromInt (.fcvtSWu fd rs1 rm) .single s.numerics.fromUInt32 fd rs1 rm)

/-- `fmv.x.w` (R264). -/
def execFmvXW (rd fs1 : Reg) (s : State) : Result :=
  .next (s.listed (.fmvXW rd fs1) fun s => s.setRd rd (sext (s.rawS fs1)) 4)

/-- `fmv.w.x` (R265). -/
def execFmvWX (fd rs1 : Reg) (s : State) : Result :=
  .next (s.listed (.fmvWX fd rs1) fun s => (s.wrS fd (low32 (s.readX rs1))).advance 4)

/-- `fld` (R266). -/
def execFld (fd rs1 : Reg) (imm : BitVec 12) (s : State) : Result :=
  .next (s.listed (.fld fd rs1 imm) fun s => s.loadD fd (s.ea rs1 (immI imm)) 4)

/-- `fsd` (R267). -/
def execFsd (fs2 rs1 : Reg) (imm : BitVec 12) (s : State) : Result :=
  .next (s.listed (.fsd fs2 rs1 imm) fun s => s.store (s.ea rs1 (immI imm)) 8 (s.rdD fs2) 4)

/-- `fcvt.w.d` (R268). -/
def execFcvtWD (rd fs1 : Reg) (rm : RmField) (s : State) : Result :=
  .next (s.listed (.fcvtWD rd fs1 rm) fun s =>
    s.fpToInt (.fcvtWD rd fs1 rm) .double s.numerics.toInt32 rd fs1 rm)

/-- `fcvt.wu.d` (R269). -/
def execFcvtWuD (rd fs1 : Reg) (rm : RmField) (s : State) : Result :=
  .next (s.listed (.fcvtWuD rd fs1 rm) fun s =>
    s.fpToInt (.fcvtWuD rd fs1 rm) .double s.numerics.toUInt32 rd fs1 rm)

/-- `fcvt.d.w` (R270). -/
def execFcvtDW (fd rs1 : Reg) (rm : RmField) (s : State) : Result :=
  .next (s.listed (.fcvtDW fd rs1 rm) fun s =>
    s.fpFromInt (.fcvtDW fd rs1 rm) .double s.numerics.fromInt32 fd rs1 rm)

/-- `fcvt.d.wu` (R271). -/
def execFcvtDWu (fd rs1 : Reg) (rm : RmField) (s : State) : Result :=
  .next (s.listed (.fcvtDWu fd rs1 rm) fun s =>
    s.fpFromInt (.fcvtDWu fd rs1 rm) .double s.numerics.fromUInt32 fd rs1 rm)

/-- `fcvt.s.d` (R272). -/
def execFcvtSD (fd fs1 : Reg) (rm : RmField) (s : State) : Result :=
  .next (s.listed (.fcvtSD fd fs1 rm) fun s =>
    s.fpConvert (.fcvtSD fd fs1 rm) .double .single s.numerics.dToS fd fs1 rm)

/-- `fcvt.d.s` (R273). -/
def execFcvtDS (fd fs1 : Reg) (rm : RmField) (s : State) : Result :=
  .next (s.listed (.fcvtDS fd fs1 rm) fun s =>
    s.fpConvert (.fcvtDS fd fs1 rm) .single .double (fun _ => s.numerics.sToD) fd fs1 rm)

end Sys2Proof.Machine
end

