-- ==== Sys2Proof/Machine/Rvc.lean ====
section
/-! DEFINITION. The meanings of Table B.6 (`spec/44_rvc.md`): the 32-bit equivalent with
`ilen = 2` (R330 (c)). Rules are those of that file. -/

namespace Sys2Proof.Machine

/-- `c.addi4spn` (R332). -/
def execCAddi4spn (rd : CReg) (imm : BitVec 8) (s : State) : Result :=
  .next (s.listed (.cAddi4spn rd imm) fun s => s.aluImm aluAdd rd.reg 2#5 (immCiw imm) 2)

/-- `c.fld` (R333). -/
def execCFld (fd rs1 : CReg) (imm : BitVec 5) (s : State) : Result :=
  .next (s.listed (.cFld fd rs1 imm) fun s => s.loadD fd.reg (s.ea rs1.reg (immCd imm)) 2)

/-- `c.lw` (R334). -/
def execCLw (rd rs1 : CReg) (imm : BitVec 5) (s : State) : Result :=
  .next (s.listed (.cLw rd rs1 imm) fun s => s.loadX rd.reg (s.ea rs1.reg (immCw imm)) 4 sextWord 2)

/-- `c.flw` (R335). -/
def execCFlw (fd rs1 : CReg) (imm : BitVec 5) (s : State) : Result :=
  .next (s.listed (.cFlw fd rs1 imm) fun s => s.loadS fd.reg (s.ea rs1.reg (immCw imm)) 2)

/-- `c.fsd` (R336). -/
def execCFsd (fs2 rs1 : CReg) (imm : BitVec 5) (s : State) : Result :=
  .next (s.listed (.cFsd fs2 rs1 imm) fun s =>
    s.store (s.ea rs1.reg (immCd imm)) 8 (s.rdD fs2.reg) 2)

/-- `c.sw` (R337). -/
def execCSw (rs2 rs1 : CReg) (imm : BitVec 5) (s : State) : Result :=
  .next (s.listed (.cSw rs2 rs1 imm) fun s =>
    s.store (s.ea rs1.reg (immCw imm)) 4 (s.readX rs2.reg) 2)

/-- `c.fsw` (R338). -/
def execCFsw (fs2 rs1 : CReg) (imm : BitVec 5) (s : State) : Result :=
  .next (s.listed (.cFsw fs2 rs1 imm) fun s =>
    s.store (s.ea rs1.reg (immCw imm)) 4 (zext (s.rawS fs2.reg)) 2)

/-- `c.nop` (R339). -/
def execCNop (s : State) : Result :=
  .next (s.listed .cNop fun s => s.advance 2)

/-- `c.addi` (R340). -/
def execCAddi (rd : Reg) (imm : BitVec 6) (s : State) : Result :=
  .next (s.listed (.cAddi rd imm) fun s => s.aluImm aluAdd rd rd (immC6 imm) 2)

/-- `c.jal` (R341). -/
def execCJal (imm : BitVec 11) (s : State) : Result :=
  .next (s.listed (.cJal imm) fun s => s.jumpLink 1#5 (s.pcRel (immCj imm)) 2)

/-- `c.li` (R342). -/
def execCLi (rd : Reg) (imm : BitVec 6) (s : State) : Result :=
  .next (s.listed (.cLi rd imm) fun s => s.setRd rd (immC6 imm) 2)

/-- `c.lui` (R343). -/
def execCLui (rd : Reg) (imm : BitVec 6) (s : State) : Result :=
  .next (s.listed (.cLui rd imm) fun s => s.setRd rd (immCLui imm) 2)

/-- `c.addi16sp` (R344). -/
def execCAddi16sp (imm : BitVec 6) (s : State) : Result :=
  .next (s.listed (.cAddi16sp imm) fun s => s.aluImm aluAdd 2#5 2#5 (immC16sp imm) 2)

/-- `c.srli` (R345). -/
def execCSrli (rd : CReg) (shamt : BitVec 5) (s : State) : Result :=
  .next (s.listed (.cSrli rd shamt) fun s => s.aluImm aluSrl rd.reg rd.reg (zext shamt) 2)

/-- `c.srai` (R346). -/
def execCSrai (rd : CReg) (shamt : BitVec 5) (s : State) : Result :=
  .next (s.listed (.cSrai rd shamt) fun s => s.aluImm aluSra rd.reg rd.reg (zext shamt) 2)

/-- `c.andi` (R347). -/
def execCAndi (rd : CReg) (imm : BitVec 6) (s : State) : Result :=
  .next (s.listed (.cAndi rd imm) fun s => s.aluImm aluAnd rd.reg rd.reg (immC6 imm) 2)

/-- `c.sub` (R348). -/
def execCSub (rd rs2 : CReg) (s : State) : Result :=
  .next (s.listed (.cSub rd rs2) fun s => s.aluReg aluSub rd.reg rd.reg rs2.reg 2)

/-- `c.xor` (R349). -/
def execCXor (rd rs2 : CReg) (s : State) : Result :=
  .next (s.listed (.cXor rd rs2) fun s => s.aluReg aluXor rd.reg rd.reg rs2.reg 2)

/-- `c.or` (R350). -/
def execCOr (rd rs2 : CReg) (s : State) : Result :=
  .next (s.listed (.cOr rd rs2) fun s => s.aluReg aluOr rd.reg rd.reg rs2.reg 2)

/-- `c.and` (R351). -/
def execCAnd (rd rs2 : CReg) (s : State) : Result :=
  .next (s.listed (.cAnd rd rs2) fun s => s.aluReg aluAnd rd.reg rd.reg rs2.reg 2)

/-- `c.j` (R352). -/
def execCJ (imm : BitVec 11) (s : State) : Result :=
  .next (s.listed (.cJ imm) fun s => s.transfer (s.pcRel (immCj imm)) (fun t => t))

/-- `c.beqz` (R353). -/
def execCBeqz (rs1 : CReg) (imm : BitVec 8) (s : State) : Result :=
  .next (s.listed (.cBeqz rs1 imm) fun s => s.branchCmp cmpEq rs1.reg 0#5 (immCb imm) 2)

/-- `c.bnez` (R354). -/
def execCBnez (rs1 : CReg) (imm : BitVec 8) (s : State) : Result :=
  .next (s.listed (.cBnez rs1 imm) fun s => s.branchCmp cmpNe rs1.reg 0#5 (immCb imm) 2)

/-- `c.slli` (R355). -/
def execCSlli (rd : Reg) (shamt : BitVec 5) (s : State) : Result :=
  .next (s.listed (.cSlli rd shamt) fun s => s.aluImm aluSll rd rd (zext shamt) 2)

/-- `c.fldsp` (R356). -/
def execCFldsp (fd : Reg) (imm : BitVec 6) (s : State) : Result :=
  .next (s.listed (.cFldsp fd imm) fun s => s.loadD fd (s.ea 2#5 (immCdsp imm)) 2)

/-- `c.lwsp` (R357). -/
def execCLwsp (rd : Reg) (imm : BitVec 6) (s : State) : Result :=
  .next (s.listed (.cLwsp rd imm) fun s => s.loadX rd (s.ea 2#5 (immCwsp imm)) 4 sextWord 2)

/-- `c.flwsp` (R358). -/
def execCFlwsp (fd : Reg) (imm : BitVec 6) (s : State) : Result :=
  .next (s.listed (.cFlwsp fd imm) fun s => s.loadS fd (s.ea 2#5 (immCwsp imm)) 2)

/-- `c.jr` (R359). -/
def execCJr (rs1 : Reg) (s : State) : Result :=
  .next (s.listed (.cJr rs1) fun s => s.transfer (s.indirect rs1 0#64) (fun t => t))

/-- `c.mv` (R360). -/
def execCMv (rd rs2 : Reg) (s : State) : Result :=
  .next (s.listed (.cMv rd rs2) fun s => s.setRd rd (s.readX rs2) 2)

/-- `c.ebreak` (R361). -/
def execCEbreak (s : State) : Result :=
  .next (s.listed .cEbreak fun s => s.raise .breakpoint s.pc)

/-- `c.jalr` (R362). -/
def execCJalr (rs1 : Reg) (s : State) : Result :=
  .next (s.listed (.cJalr rs1) fun s => s.jumpLink 1#5 (s.indirect rs1 0#64) 2)

/-- `c.add` (R363). -/
def execCAdd (rd rs2 : Reg) (s : State) : Result :=
  .next (s.listed (.cAdd rd rs2) fun s => s.aluReg aluAdd rd rd rs2 2)

/-- `c.fsdsp` (R364). -/
def execCFsdsp (fs2 : Reg) (imm : BitVec 6) (s : State) : Result :=
  .next (s.listed (.cFsdsp fs2 imm) fun s => s.store (s.ea 2#5 (immCdsp imm)) 8 (s.rdD fs2) 2)

/-- `c.swsp` (R365). -/
def execCSwsp (rs2 : Reg) (imm : BitVec 6) (s : State) : Result :=
  .next (s.listed (.cSwsp rs2 imm) fun s => s.store (s.ea 2#5 (immCwsp imm)) 4 (s.readX rs2) 2)

/-- `c.fswsp` (R366). -/
def execCFswsp (fs2 : Reg) (imm : BitVec 6) (s : State) : Result :=
  .next (s.listed (.cFswsp fs2 imm) fun s =>
    s.store (s.ea 2#5 (immCwsp imm)) 4 (zext (s.rawS fs2)) 2)

end Sys2Proof.Machine
end

