-- ==== Sys2Proof/Machine/Rvm.lean ====
section
/-! DEFINITION. The meanings of Table B.5 (`spec/43_rvm.md`). Rules are those of that file. -/

namespace Sys2Proof.Machine

/-- A result of `DIV_CORNERS` (R310 (e); log 17). -/
def cornerWord (c : CornerResult) (dividend : Word) : Word :=
  match c with
  | .dividend => dividend
  | .value v => v

/-- `-2^(XLEN-1)` divided by `-1` (R310 (e)). -/
def State.divOverflows (s : State) (a b : Word) : Bool :=
  s.xlen.signed a == -2 ^ (s.xlen.bits - 1) && s.xlen.signed b == -1

/-- A quotient or remainder of unsigned values (R316, R318). -/
def State.divUnsigned (s : State) (op : (w : Nat) → BitVec w → BitVec w → BitVec w)
    (zero : CornerResult) (a b : Word) : Word :=
  if s.xlen.unsigned b = 0 then cornerWord zero a else s.xlen.lift2 op a b

/-- A quotient or remainder of signed values (R315, R317). -/
def State.divSigned (s : State) (op : (w : Nat) → BitVec w → BitVec w → BitVec w)
    (zero ovf : CornerResult) (a b : Word) : Word :=
  if s.xlen.unsigned b = 0 then cornerWord zero a
  else if s.divOverflows a b then cornerWord ovf a
  else s.xlen.lift2 op a b

/-- `mul` (R311). -/
def execMul (rd rs1 rs2 : Reg) (s : State) : Result :=
  .next (s.listed (.mul rd rs1 rs2) fun s => s.aluReg aluMul rd rs1 rs2 4)

/-- `mulh` (R312). -/
def execMulh (rd rs1 rs2 : Reg) (s : State) : Result :=
  .next (s.listed (.mulh rd rs1 rs2) fun s => s.aluReg aluMulh rd rs1 rs2 4)

/-- `mulhsu` (R313). -/
def execMulhsu (rd rs1 rs2 : Reg) (s : State) : Result :=
  .next (s.listed (.mulhsu rd rs1 rs2) fun s => s.aluReg aluMulhsu rd rs1 rs2 4)

/-- `mulhu` (R314). -/
def execMulhu (rd rs1 rs2 : Reg) (s : State) : Result :=
  .next (s.listed (.mulhu rd rs1 rs2) fun s => s.aluReg aluMulhu rd rs1 rs2 4)

/-- `div` (R315). -/
def execDiv (rd rs1 rs2 : Reg) (s : State) : Result :=
  .next (s.listed (.div rd rs1 rs2) fun s =>
    s.setRd rd (s.divSigned aluDiv s.cfg.div.zeroQuot s.cfg.div.ovfQuot
    (s.readX rs1) (s.readX rs2)) 4)

/-- `divu` (R316). -/
def execDivu (rd rs1 rs2 : Reg) (s : State) : Result :=
  .next (s.listed (.divu rd rs1 rs2) fun s =>
    s.setRd rd (s.divUnsigned aluDivu s.cfg.div.zeroQuot (s.readX rs1) (s.readX rs2)) 4)

/-- `rem` (R317). -/
def execRem (rd rs1 rs2 : Reg) (s : State) : Result :=
  .next (s.listed (.rem rd rs1 rs2) fun s =>
    s.setRd rd (s.divSigned aluRem s.cfg.div.zeroRem s.cfg.div.ovfRem
    (s.readX rs1) (s.readX rs2)) 4)

/-- `remu` (R318). -/
def execRemu (rd rs1 rs2 : Reg) (s : State) : Result :=
  .next (s.listed (.remu rd rs1 rs2) fun s =>
    s.setRd rd (s.divUnsigned aluRemu s.cfg.div.zeroRem (s.readX rs1) (s.readX rs2)) 4)

end Sys2Proof.Machine
end

