-- ==== Sys2Proof/Machine/Csr.lean ====
section
/-! DEFINITION. The control and status registers: numbers, existence, access, fields
(`spec/10_state.md` R41 to R45, `spec/60_exceptions.md` R479, `spec/46_priv_csr.md` R452). -/

namespace Sys2Proof.Machine

/-- The number of a register (`spec/10_state.md` R43 to R45). -/
def csrNumber : Csr → BitVec 12
  | .fflags => 0x001#12
  | .frm => 0x002#12
  | .fcsr => 0x003#12
  | .uepc => 0x041#12
  | .sepc => 0x141#12
  | .mepc => 0x341#12
  | .mstatus => 0x300#12
  | .mtvec => 0x305#12
  | .mscratch => 0x340#12
  | .mcause => 0x342#12
  | .mtval => 0x343#12

/-- Is the register in `CSR_FILE`, as one of those the spec describes? DESIGN CHOICE: an entry of
`extraCsrs` with its number is another register, and the return instructions take this one as absent
(log 34). -/
def State.hasCsr (s : State) (c : Csr) : Bool := s.cfg.csrFile.contains c

/-- The register of `CSR_FILE` with a number, among those the spec describes. -/
def State.namedCsr (s : State) (n : BitVec 12) : Option Csr :=
  s.cfg.csrFile.find? fun c => csrNumber c == n

/-- The description of a register with a number, among those the spec does not describe (log 18). -/
def State.extraDesc (s : State) (n : BitVec 12) : Option CsrDesc :=
  s.cfg.extraCsrs.find? fun d => d.num == n

/-- `n` is in `CSR_FILE` (`spec/10_state.md` R42). -/
def State.csrExists (s : State) (n : BitVec 12) : Bool :=
  (s.namedCsr n).isSome || (s.extraDesc n).isSome

/-- The value of `mstatus` (`spec/60_exceptions.md` R479): every bit but `MIE`, `MPIE`, `MPP` is
zero. -/
def State.mstatus (s : State) : Word :=
  (if s.mie then 1#64 <<< 3 else 0#64) ||| (if s.mpie then 1#64 <<< 7 else 0#64)
    ||| (s.mpp.code.setWidth 64 <<< 11)

/-- The mode of a code that is a member of `PRIV_MODES`. -/
def privOfCode (modes : PrivModes) (c : BitVec 2) : Option Priv :=
  match c with
  | 0#2 => if modes.has .u then some .u else none
  | 1#2 => if modes.has .s then some .s else none
  | 3#2 => some .m
  | _ => none

/-- Write `mstatus`: `MIE` and `MPIE` take any value, `MPP` only the code of a member of `PRIV_MODES`
(`spec/60_exceptions.md` R479). -/
def State.writeMstatus (s : State) (v : Word) : State :=
  { s with
    mie := v.getLsbD 3
    mpie := v.getLsbD 7
    mpp := (privOfCode s.cfg.privModes (v.extractLsb' 11 2)).getD s.mpp }

/-- Read a described register (`spec/10_state.md` R43, R44, `spec/60_exceptions.md` R479). -/
def State.readNamed (s : State) (c : Csr) : Word :=
  match c with
  | .fflags => s.fflags.setWidth 64
  | .frm => s.frm.setWidth 64
  | .fcsr => (s.frm ++ s.fflags).setWidth 64
  | .uepc => s.cfg.isa.alignPc s.uepc
  | .sepc => s.cfg.isa.alignPc s.sepc
  | .mepc => s.cfg.isa.alignPc s.mepc
  | .mstatus => s.mstatus
  | .mtvec => s.mtvec &&& ~~~3#64
  | .mscratch => s.mscratch
  | .mcause => s.mcause
  | .mtval => s.mtval

/-- Write a described register through its write rule (`spec/10_state.md` R43, R44,
`spec/60_exceptions.md` R479). -/
def State.writeNamed (s : State) (c : Csr) (v : Word) : State :=
  match c with
  | .fflags => { s with fflags := v.extractLsb' 0 5 }
  | .frm => { s with frm := v.extractLsb' 0 3 }
  | .fcsr => { s with frm := v.extractLsb' 5 3, fflags := v.extractLsb' 0 5 }
  | .uepc => { s with uepc := s.cfg.isa.alignPc (s.xlen.narrow v) }
  | .sepc => { s with sepc := s.cfg.isa.alignPc (s.xlen.narrow v) }
  | .mepc => { s with mepc := s.cfg.isa.alignPc (s.xlen.narrow v) }
  | .mstatus => s.writeMstatus v
  | .mtvec => { s with mtvec := s.xlen.narrow v &&& ~~~3#64 }
  | .mscratch => { s with mscratch := s.xlen.narrow v }
  | .mcause => { s with mcause := s.xlen.narrow v }
  | .mtval => { s with mtval := s.xlen.narrow v }

/-- Set the value of the register with a number. -/
def setCsr (n : BitVec 12) (v : Word) : List ExtraCsr → List ExtraCsr
  | [] => [{ num := n, val := v }]
  | c :: cs => if c.num = n then { num := n, val := v } :: cs else c :: setCsr n v cs

/-- The bits a register that the spec does not describe holds. -/
def State.extraVal (s : State) (n : BitVec 12) : Word := lookupCsr 0#64 n s.extra

/-- Write such a register through its write rule (`spec/46_priv_csr.md` R452 (6); log 18). -/
def State.writeExtra (s : State) (d : CsrDesc) (n : BitVec 12) (v : Word) : State :=
  { s with extra := setCsr n (s.xlen.narrow (d.written (s.extraVal n) (s.xlen.narrow v))) s.extra }

/-- `csr[n]`. -/
def State.readCsr (s : State) (n : BitVec 12) : Word :=
  match s.namedCsr n with
  | some c => s.readNamed c
  | none =>
    match s.extraDesc n with
    | some d => d.shown (s.extraVal n)
    | none => 0#64

/-- `csr[n] <- v`. -/
def State.writeCsr (s : State) (n : BitVec 12) (v : Word) : State :=
  match s.namedCsr n with
  | some c => s.writeNamed c v
  | none =>
    match s.extraDesc n with
    | some d => s.writeExtra d n v
    | none => s

/-- The mode a number asks for, bits 9:8; `10` is treated as M (`spec/46_priv_csr.md` R452 (2)). -/
def csrMode (n : BitVec 12) : Priv :=
  match n.extractLsb' 8 2 with
  | 0#2 => .u
  | 1#2 => .s
  | _ => .m

/-- The number is in the read-only quarter, bits 11:10 both one (`spec/46_priv_csr.md` R452 (3)). -/
def csrReadOnly (n : BitVec 12) : Bool := n.extractLsb' 10 2 == 0b11#2

/-- The checks (1) to (3) of `spec/46_priv_csr.md` R452. -/
def State.csrAllowed (s : State) (n : BitVec 12) (writes : Bool) : Bool :=
  s.csrExists n && !(s.priv.below (csrMode n)) && !(writes && csrReadOnly n)

/-- A CSR instruction (`spec/46_priv_csr.md` R452): check, read the old value, write the new one if
the instruction writes, put the old value in `rd`. -/
def State.csrAccess (s : State) (i : Instr) (rd : Reg) (n : BitVec 12) (writes : Bool)
    (new : Word → Word) : State :=
  if s.csrAllowed n writes then
    let old := s.readCsr n
    let t := if writes then s.writeCsr n (new old) else s
    (t.writeX rd old).advance 4
  else s.illegal i

end Sys2Proof.Machine
end

