-- ==== Sys2Proof/Machine/HostCalls.lean ====
section
/-! DEFINITION. `HOST` (`spec/70_reset_and_hazards.md` R526): the services that the harness performs when
the run stops on `EnvironmentCall` under `TRAP_LAYER = fault` (log 20). -/

namespace Sys2Proof.Machine

/-- The value of a register that a service reads. -/
def State.hostReg (s : State) (r : HostReg) : Word :=
  match r with
  | .x r => s.readX r
  | .f r => s.readF r

/-- The addresses of an area. -/
def State.hostAddrs (s : State) (a : HostArea) : List Nat :=
  s.accessAddrs (s.xlen.narrow (s.readX a.base + a.off)) (s.xlen.unsigned (s.readX a.len) + a.extra)

/-- What a service sees of the stopped state. -/
def State.hostQuery (s : State) (h : HostService) : HostQuery :=
  { service := h.id
    regs := h.regsRead.map s.hostReg
    bytes := (h.memRead.flatMap s.hostAddrs).map s.mem.read
    draw := s.draws }

/-- A condition of a row holds of the stopped state. -/
def State.hostHolds (s : State) (h : HostService) (c : HostCond) : Bool :=
  match c with
  | .equals r v => s.hostReg r == v
  | .other k => Config.hostCondition k (s.hostQuery h)

/-- The row of `HOST` that the stopped state selects: the first whose conditions all hold. -/
def State.hostRow (s : State) : Option HostService :=
  s.cfg.host.find? fun h => h.selects.all (s.hostHolds h)

/-- Write a register. -/
def State.hostSet (s : State) (r : HostReg) (v : Word) : State :=
  match r with
  | .x r => s.writeX r v
  | .f r => s.writeF r v

/-- Write the registers of a service, with its values from number `i` on. -/
def State.hostSetAll (s : State) (q : HostQuery) (i : Nat) : List HostReg → State
  | [] => s
  | r :: rs => (s.hostSet r (Config.hostValue q i)).hostSetAll q (i + 1) rs

/-- Write a byte, and record it as modified, so that it is not fetched (log 20). -/
def State.hostPoke (s : State) (a : Nat) (b : Byte) : State :=
  { s with mem := s.mem.write a b, modified := addAddr a s.modified }

/-- Write the bytes of a service, with its values from number `i` on. -/
def State.hostPokeAll (s : State) (q : HostQuery) (i : Nat) : List Nat → State
  | [] => s
  | a :: as => (s.hostPoke a ((Config.hostValue q i).setWidth 8)).hostPokeAll q (i + 1) as

/-- The addresses that a service writes. -/
def State.hostWrites (s : State) (h : HostService) : List Nat := h.memWritten.flatMap s.hostAddrs

/-- The registers and the memory that a service writes. -/
def State.hostEffect (s : State) (h : HostService) : State :=
  let q := s.hostQuery h
  let t := (s.hostSetAll q 0 h.regsWritten).hostPokeAll q h.regsWritten.length (s.hostWrites h)
  { t with draws := s.draws + 1 }

/-- What a service leaves: its writes, then the run resumed after the call with the record reset, or
ended. -/
def State.hostServe (s : State) (h : HostService) : State :=
  if h.resumes then { s.hostEffect h with outcome := .running, pc := s.nextPc 4 } else s.hostEffect h

/-- `raise EnvironmentCall(0)` (`spec/46_priv_csr.md` R441). Under `TRAP_LAYER = fault` the harness then
performs the service that the stopped state selects, if any; under `mmode` `HOST` is not consulted. -/
def State.environmentCall (s : State) : State :=
  let t := s.raise (.environmentCall s.priv) 0#64
  match s.cfg.trapLayer with
  | .mmode => t
  | .fault =>
    match t.hostRow with
    | some h => t.hostServe h
    | none => t

end Sys2Proof.Machine
end

