-- ==== Sys2Proof/Machine/System.lean ====
section
/-! DEFINITION. The meanings of Table B.8 (`spec/46_priv_csr.md`). Rules are those of that file. -/

namespace Sys2Proof.Machine

/-- What `mret` does once its checks pass: `pc <- mepc`, and under the trap layer the status update
(R445, `spec/60_exceptions.md` R481). -/
def State.machineReturn (s : State) : State :=
  match s.cfg.trapLayer with
  | .fault => s.returnTo s.mepc
  | .mmode => (s.returnTo s.mepc).popStatus

/-- `ecall` (R441; `spec/70_reset_and_hazards.md` R526). -/
def execEcall (s : State) : Result := .next (s.listed .ecall State.environmentCall)

/-- `ebreak` (R442). -/
def execEbreak (s : State) : Result :=
  .next (s.listed .ebreak fun s => s.raise .breakpoint s.pc)

/-- `uret` (R443). A register of `extraCsrs` numbered 0x041 is not `uepc` (log 34). -/
def execUret (s : State) : Result :=
  .next (s.listed .uret fun s => if s.hasCsr .uepc then s.returnTo s.uepc else s.illegal .uret)

/-- `sret` (R444). A register of `extraCsrs` numbered 0x141 is not `sepc` (log 34). -/
def execSret (s : State) : Result :=
  .next (s.listed .sret fun s =>
    if s.priv.below .s || !s.hasCsr .sepc then s.illegal .sret else s.returnTo s.sepc)

/-- `mret` (R445). Without `mepc` it is illegal: DEDUCED (log 19); a register of `extraCsrs` numbered
0x341 is not `mepc` (log 34). -/
def execMret (s : State) : Result :=
  .next (s.listed .mret fun s =>
    if s.priv.below .m || !s.hasCsr .mepc then s.illegal .mret else s.machineReturn)

/-- `crrw` (R446). -/
def execCrrw (rd : Reg) (csr : BitVec 12) (rs1 : Reg) (s : State) : Result :=
  .next (s.listed (.crrw rd csr rs1) fun s =>
    s.csrAccess (.crrw rd csr rs1) rd csr true (fun _ => s.readX rs1))

/-- `crrs` (R447). -/
def execCrrs (rd : Reg) (csr : BitVec 12) (rs1 : Reg) (s : State) : Result :=
  .next (s.listed (.crrs rd csr rs1) fun s =>
    s.csrAccess (.crrs rd csr rs1) rd csr (rs1 != 0#5) (fun old => old ||| s.readX rs1))

/-- `crrc` (R448). -/
def execCrrc (rd : Reg) (csr : BitVec 12) (rs1 : Reg) (s : State) : Result :=
  .next (s.listed (.crrc rd csr rs1) fun s =>
    s.csrAccess (.crrc rd csr rs1) rd csr (rs1 != 0#5) (fun old => old &&& ~~~s.readX rs1))

/-- `crrwi` (R449). -/
def execCrrwi (rd : Reg) (csr : BitVec 12) (uimm : BitVec 5) (s : State) : Result :=
  .next (s.listed (.crrwi rd csr uimm) fun s =>
    s.csrAccess (.crrwi rd csr uimm) rd csr true (fun _ => zext uimm))

/-- `crrsi` (R450). -/
def execCrrsi (rd : Reg) (csr : BitVec 12) (uimm : BitVec 5) (s : State) : Result :=
  .next (s.listed (.crrsi rd csr uimm) fun s =>
    s.csrAccess (.crrsi rd csr uimm) rd csr (uimm != 0#5) (fun old => old ||| zext uimm))

/-- `crrci` (R451). -/
def execCrrci (rd : Reg) (csr : BitVec 12) (uimm : BitVec 5) (s : State) : Result :=
  .next (s.listed (.crrci rd csr uimm) fun s =>
    s.csrAccess (.crrci rd csr uimm) rd csr (uimm != 0#5) (fun old => old &&& ~~~zext uimm))

end Sys2Proof.Machine
end

