-- ==== Sys2Proof/Machine/Dispatch.lean ====
section
/-! DEFINITION. The meaning of every instruction, one arm each. -/

namespace Sys2Proof.Machine

/-- Run one instruction. -/
def exec (i : Instr) (s : State) : Host.Outcome State Fault Refusal :=
  match i with
  | .lb rd rs1 imm => Sys2Proof.Machine.execLb rd rs1 imm s
  | .lh rd rs1 imm => Sys2Proof.Machine.execLh rd rs1 imm s
  | .lw rd rs1 imm => Sys2Proof.Machine.execLw rd rs1 imm s
  | .lbu rd rs1 imm => Sys2Proof.Machine.execLbu rd rs1 imm s
  | .lhu rd rs1 imm => Sys2Proof.Machine.execLhu rd rs1 imm s
  | .addi rd rs1 imm => Sys2Proof.Machine.execAddi rd rs1 imm s
  | .slli rd rs1 shamt => Sys2Proof.Machine.execSlli rd rs1 shamt s
  | .slti rd rs1 imm => Sys2Proof.Machine.execSlti rd rs1 imm s
  | .sltiu rd rs1 imm => Sys2Proof.Machine.execSltiu rd rs1 imm s
  | .xori rd rs1 imm => Sys2Proof.Machine.execXori rd rs1 imm s
  | .srli rd rs1 shamt => Sys2Proof.Machine.execSrli rd rs1 shamt s
  | .srai rd rs1 shamt => Sys2Proof.Machine.execSrai rd rs1 shamt s
  | .ori rd rs1 imm => Sys2Proof.Machine.execOri rd rs1 imm s
  | .andi rd rs1 imm => Sys2Proof.Machine.execAndi rd rs1 imm s
  | .auipc rd upimm => Sys2Proof.Machine.execAuipc rd upimm s
  | .sb rs2 rs1 imm => Sys2Proof.Machine.execSb rs2 rs1 imm s
  | .sh rs2 rs1 imm => Sys2Proof.Machine.execSh rs2 rs1 imm s
  | .sw rs2 rs1 imm => Sys2Proof.Machine.execSw rs2 rs1 imm s
  | .add rd rs1 rs2 => Sys2Proof.Machine.execAdd rd rs1 rs2 s
  | .sub rd rs1 rs2 => Sys2Proof.Machine.execSub rd rs1 rs2 s
  | .sll rd rs1 rs2 => Sys2Proof.Machine.execSll rd rs1 rs2 s
  | .slt rd rs1 rs2 => Sys2Proof.Machine.execSlt rd rs1 rs2 s
  | .sltu rd rs1 rs2 => Sys2Proof.Machine.execSltu rd rs1 rs2 s
  | .xor rd rs1 rs2 => Sys2Proof.Machine.execXor rd rs1 rs2 s
  | .srl rd rs1 rs2 => Sys2Proof.Machine.execSrl rd rs1 rs2 s
  | .sra rd rs1 rs2 => Sys2Proof.Machine.execSra rd rs1 rs2 s
  | .or rd rs1 rs2 => Sys2Proof.Machine.execOr rd rs1 rs2 s
  | .and rd rs1 rs2 => Sys2Proof.Machine.execAnd rd rs1 rs2 s
  | .lui rd upimm => Sys2Proof.Machine.execLui rd upimm s
  | .beq rs1 rs2 imm => Sys2Proof.Machine.execBeq rs1 rs2 imm s
  | .bne rs1 rs2 imm => Sys2Proof.Machine.execBne rs1 rs2 imm s
  | .blt rs1 rs2 imm => Sys2Proof.Machine.execBlt rs1 rs2 imm s
  | .bge rs1 rs2 imm => Sys2Proof.Machine.execBge rs1 rs2 imm s
  | .bltu rs1 rs2 imm => Sys2Proof.Machine.execBltu rs1 rs2 imm s
  | .bgeu rs1 rs2 imm => Sys2Proof.Machine.execBgeu rs1 rs2 imm s
  | .jalr rd rs1 imm => Sys2Proof.Machine.execJalr rd rs1 imm s
  | .jal rd imm => Sys2Proof.Machine.execJal rd imm s
  | .ld rd rs1 imm => Sys2Proof.Machine.execLd rd rs1 imm s
  | .lwu rd rs1 imm => Sys2Proof.Machine.execLwu rd rs1 imm s
  | .addiw rd rs1 imm => Sys2Proof.Machine.execAddiw rd rs1 imm s
  | .slliw rd rs1 shamt => Sys2Proof.Machine.execSlliw rd rs1 shamt s
  | .srliw rd rs1 shamt => Sys2Proof.Machine.execSrliw rd rs1 shamt s
  | .sraiw rd rs1 shamt => Sys2Proof.Machine.execSraiw rd rs1 shamt s
  | .sd rs2 rs1 imm => Sys2Proof.Machine.execSd rs2 rs1 imm s
  | .addw rd rs1 rs2 => Sys2Proof.Machine.execAddw rd rs1 rs2 s
  | .subw rd rs1 rs2 => Sys2Proof.Machine.execSubw rd rs1 rs2 s
  | .sllw rd rs1 rs2 => Sys2Proof.Machine.execSllw rd rs1 rs2 s
  | .srlw rd rs1 rs2 => Sys2Proof.Machine.execSrlw rd rs1 rs2 s
  | .sraw rd rs1 rs2 => Sys2Proof.Machine.execSraw rd rs1 rs2 s
  | .fmaddS fd fs1 fs2 fs3 rm => Sys2Proof.Machine.execFmaddS fd fs1 fs2 fs3 rm s
  | .fmaddD fd fs1 fs2 fs3 rm => Sys2Proof.Machine.execFmaddD fd fs1 fs2 fs3 rm s
  | .fmsubS fd fs1 fs2 fs3 rm => Sys2Proof.Machine.execFmsubS fd fs1 fs2 fs3 rm s
  | .fmsubD fd fs1 fs2 fs3 rm => Sys2Proof.Machine.execFmsubD fd fs1 fs2 fs3 rm s
  | .fnmsubS fd fs1 fs2 fs3 rm => Sys2Proof.Machine.execFnmsubS fd fs1 fs2 fs3 rm s
  | .fnmsubD fd fs1 fs2 fs3 rm => Sys2Proof.Machine.execFnmsubD fd fs1 fs2 fs3 rm s
  | .fnmaddS fd fs1 fs2 fs3 rm => Sys2Proof.Machine.execFnmaddS fd fs1 fs2 fs3 rm s
  | .fnmaddD fd fs1 fs2 fs3 rm => Sys2Proof.Machine.execFnmaddD fd fs1 fs2 fs3 rm s
  | .faddS fd fs1 fs2 rm => Sys2Proof.Machine.execFaddS fd fs1 fs2 rm s
  | .faddD fd fs1 fs2 rm => Sys2Proof.Machine.execFaddD fd fs1 fs2 rm s
  | .fsubS fd fs1 fs2 rm => Sys2Proof.Machine.execFsubS fd fs1 fs2 rm s
  | .fsubD fd fs1 fs2 rm => Sys2Proof.Machine.execFsubD fd fs1 fs2 rm s
  | .fmulS fd fs1 fs2 rm => Sys2Proof.Machine.execFmulS fd fs1 fs2 rm s
  | .fmulD fd fs1 fs2 rm => Sys2Proof.Machine.execFmulD fd fs1 fs2 rm s
  | .fdivS fd fs1 fs2 rm => Sys2Proof.Machine.execFdivS fd fs1 fs2 rm s
  | .fdivD fd fs1 fs2 rm => Sys2Proof.Machine.execFdivD fd fs1 fs2 rm s
  | .fsqrtS fd fs1 rm => Sys2Proof.Machine.execFsqrtS fd fs1 rm s
  | .fsqrtD fd fs1 rm => Sys2Proof.Machine.execFsqrtD fd fs1 rm s
  | .fsgnjS fd fs1 fs2 => Sys2Proof.Machine.execFsgnjS fd fs1 fs2 s
  | .fsgnjD fd fs1 fs2 => Sys2Proof.Machine.execFsgnjD fd fs1 fs2 s
  | .fsgnjnS fd fs1 fs2 => Sys2Proof.Machine.execFsgnjnS fd fs1 fs2 s
  | .fsgnjnD fd fs1 fs2 => Sys2Proof.Machine.execFsgnjnD fd fs1 fs2 s
  | .fsgnjxS fd fs1 fs2 => Sys2Proof.Machine.execFsgnjxS fd fs1 fs2 s
  | .fsgnjxD fd fs1 fs2 => Sys2Proof.Machine.execFsgnjxD fd fs1 fs2 s
  | .fminS fd fs1 fs2 => Sys2Proof.Machine.execFminS fd fs1 fs2 s
  | .fminD fd fs1 fs2 => Sys2Proof.Machine.execFminD fd fs1 fs2 s
  | .fmaxS fd fs1 fs2 => Sys2Proof.Machine.execFmaxS fd fs1 fs2 s
  | .fmaxD fd fs1 fs2 => Sys2Proof.Machine.execFmaxD fd fs1 fs2 s
  | .feqS rd fs1 fs2 => Sys2Proof.Machine.execFeqS rd fs1 fs2 s
  | .feqD rd fs1 fs2 => Sys2Proof.Machine.execFeqD rd fs1 fs2 s
  | .fltS rd fs1 fs2 => Sys2Proof.Machine.execFltS rd fs1 fs2 s
  | .fltD rd fs1 fs2 => Sys2Proof.Machine.execFltD rd fs1 fs2 s
  | .fleS rd fs1 fs2 => Sys2Proof.Machine.execFleS rd fs1 fs2 s
  | .fleD rd fs1 fs2 => Sys2Proof.Machine.execFleD rd fs1 fs2 s
  | .fclassS rd fs1 => Sys2Proof.Machine.execFclassS rd fs1 s
  | .fclassD rd fs1 => Sys2Proof.Machine.execFclassD rd fs1 s
  | .flw fd rs1 imm => Sys2Proof.Machine.execFlw fd rs1 imm s
  | .fsw fs2 rs1 imm => Sys2Proof.Machine.execFsw fs2 rs1 imm s
  | .fcvtWS rd fs1 rm => Sys2Proof.Machine.execFcvtWS rd fs1 rm s
  | .fcvtWuS rd fs1 rm => Sys2Proof.Machine.execFcvtWuS rd fs1 rm s
  | .fcvtSW fd rs1 rm => Sys2Proof.Machine.execFcvtSW fd rs1 rm s
  | .fcvtSWu fd rs1 rm => Sys2Proof.Machine.execFcvtSWu fd rs1 rm s
  | .fmvXW rd fs1 => Sys2Proof.Machine.execFmvXW rd fs1 s
  | .fmvWX fd rs1 => Sys2Proof.Machine.execFmvWX fd rs1 s
  | .fld fd rs1 imm => Sys2Proof.Machine.execFld fd rs1 imm s
  | .fsd fs2 rs1 imm => Sys2Proof.Machine.execFsd fs2 rs1 imm s
  | .fcvtWD rd fs1 rm => Sys2Proof.Machine.execFcvtWD rd fs1 rm s
  | .fcvtWuD rd fs1 rm => Sys2Proof.Machine.execFcvtWuD rd fs1 rm s
  | .fcvtDW fd rs1 rm => Sys2Proof.Machine.execFcvtDW fd rs1 rm s
  | .fcvtDWu fd rs1 rm => Sys2Proof.Machine.execFcvtDWu fd rs1 rm s
  | .fcvtSD fd fs1 rm => Sys2Proof.Machine.execFcvtSD fd fs1 rm s
  | .fcvtDS fd fs1 rm => Sys2Proof.Machine.execFcvtDS fd fs1 rm s
  | .mul rd rs1 rs2 => Sys2Proof.Machine.execMul rd rs1 rs2 s
  | .mulh rd rs1 rs2 => Sys2Proof.Machine.execMulh rd rs1 rs2 s
  | .mulhsu rd rs1 rs2 => Sys2Proof.Machine.execMulhsu rd rs1 rs2 s
  | .mulhu rd rs1 rs2 => Sys2Proof.Machine.execMulhu rd rs1 rs2 s
  | .div rd rs1 rs2 => Sys2Proof.Machine.execDiv rd rs1 rs2 s
  | .divu rd rs1 rs2 => Sys2Proof.Machine.execDivu rd rs1 rs2 s
  | .rem rd rs1 rs2 => Sys2Proof.Machine.execRem rd rs1 rs2 s
  | .remu rd rs1 rs2 => Sys2Proof.Machine.execRemu rd rs1 rs2 s
  | .cAddi4spn rd imm => Sys2Proof.Machine.execCAddi4spn rd imm s
  | .cFld fd rs1 imm => Sys2Proof.Machine.execCFld fd rs1 imm s
  | .cLw rd rs1 imm => Sys2Proof.Machine.execCLw rd rs1 imm s
  | .cFlw fd rs1 imm => Sys2Proof.Machine.execCFlw fd rs1 imm s
  | .cFsd fs2 rs1 imm => Sys2Proof.Machine.execCFsd fs2 rs1 imm s
  | .cSw rs2 rs1 imm => Sys2Proof.Machine.execCSw rs2 rs1 imm s
  | .cFsw fs2 rs1 imm => Sys2Proof.Machine.execCFsw fs2 rs1 imm s
  | .cNop => Sys2Proof.Machine.execCNop s
  | .cAddi rd imm => Sys2Proof.Machine.execCAddi rd imm s
  | .cJal imm => Sys2Proof.Machine.execCJal imm s
  | .cLi rd imm => Sys2Proof.Machine.execCLi rd imm s
  | .cLui rd imm => Sys2Proof.Machine.execCLui rd imm s
  | .cAddi16sp imm => Sys2Proof.Machine.execCAddi16sp imm s
  | .cSrli rd shamt => Sys2Proof.Machine.execCSrli rd shamt s
  | .cSrai rd shamt => Sys2Proof.Machine.execCSrai rd shamt s
  | .cAndi rd imm => Sys2Proof.Machine.execCAndi rd imm s
  | .cSub rd rs2 => Sys2Proof.Machine.execCSub rd rs2 s
  | .cXor rd rs2 => Sys2Proof.Machine.execCXor rd rs2 s
  | .cOr rd rs2 => Sys2Proof.Machine.execCOr rd rs2 s
  | .cAnd rd rs2 => Sys2Proof.Machine.execCAnd rd rs2 s
  | .cJ imm => Sys2Proof.Machine.execCJ imm s
  | .cBeqz rs1 imm => Sys2Proof.Machine.execCBeqz rs1 imm s
  | .cBnez rs1 imm => Sys2Proof.Machine.execCBnez rs1 imm s
  | .cSlli rd shamt => Sys2Proof.Machine.execCSlli rd shamt s
  | .cFldsp fd imm => Sys2Proof.Machine.execCFldsp fd imm s
  | .cLwsp rd imm => Sys2Proof.Machine.execCLwsp rd imm s
  | .cFlwsp fd imm => Sys2Proof.Machine.execCFlwsp fd imm s
  | .cJr rs1 => Sys2Proof.Machine.execCJr rs1 s
  | .cMv rd rs2 => Sys2Proof.Machine.execCMv rd rs2 s
  | .cEbreak => Sys2Proof.Machine.execCEbreak s
  | .cJalr rs1 => Sys2Proof.Machine.execCJalr rs1 s
  | .cAdd rd rs2 => Sys2Proof.Machine.execCAdd rd rs2 s
  | .cFsdsp fs2 imm => Sys2Proof.Machine.execCFsdsp fs2 imm s
  | .cSwsp rs2 imm => Sys2Proof.Machine.execCSwsp rs2 imm s
  | .cFswsp fs2 imm => Sys2Proof.Machine.execCFswsp fs2 imm s
  | .ecall => Sys2Proof.Machine.execEcall s
  | .ebreak => Sys2Proof.Machine.execEbreak s
  | .uret => Sys2Proof.Machine.execUret s
  | .sret => Sys2Proof.Machine.execSret s
  | .mret => Sys2Proof.Machine.execMret s
  | .crrw rd csr rs1 => Sys2Proof.Machine.execCrrw rd csr rs1 s
  | .crrs rd csr rs1 => Sys2Proof.Machine.execCrrs rd csr rs1 s
  | .crrc rd csr rs1 => Sys2Proof.Machine.execCrrc rd csr rs1 s
  | .crrwi rd csr uimm => Sys2Proof.Machine.execCrrwi rd csr uimm s
  | .crrsi rd csr uimm => Sys2Proof.Machine.execCrrsi rd csr uimm s
  | .crrci rd csr uimm => Sys2Proof.Machine.execCrrci rd csr uimm s

end Sys2Proof.Machine
end

