-- ==== Sys2Proof/Machine/Fetch.lean ====
section
/-! DEFINITION. Fetching (`spec/20_memory.md` R75), what a step does before the meaning of an
instruction, and placing an instruction where the next step fetches. -/

namespace Sys2Proof.Machine

/-- What a fetch gives. -/
inductive FetchResult where
  /-- A byte is not executable (R75, R82). -/
  | accessFault
  /-- A fetched byte has been stored to since reset (R87). -/
  | modified
  /-- The instruction bits. -/
  | got (x : Fetched)
deriving DecidableEq, Repr

/-- The 16-bit parcel at two addresses, the first the low byte (R75). -/
def State.parcelAt (s : State) (a : Word) : BitVec 16 :=
  (s.mem.readLE (s.accessAddrs a 2)).setWidth 16

/-- Every byte of the parcel is executable. -/
def State.parcelExec (s : State) (a : Word) : Bool := (s.accessAddrs a 2).all s.canExec

/-- A byte of the parcel has been stored to since reset (R87). -/
def State.parcelModified (s : State) (a : Word) : Bool :=
  (s.accessAddrs a 2).any s.modified.contains

/-- `Fetch(pc)` (R75), with the order of the checks of `spec/60_exceptions.md` R474: access of the
first parcel, access of the second, then modified bytes (log 22). -/
def State.fetch (s : State) : FetchResult :=
  let a := s.pc
  let b := s.pc + 2#64
  if !s.parcelExec a then .accessFault
  else if isFull (s.parcelAt a) then
    if !s.parcelExec b then .accessFault
    else if s.parcelModified a || s.parcelModified b then .modified
    else .got (.full (s.parcelAt b ++ s.parcelAt a))
  else if s.parcelModified a then .modified
  else .got (.half (s.parcelAt a))

/-- What a step comes to once it has fetched and decoded. -/
inductive FetchStep where
  /-- The fetch or the decoder ended the step. -/
  | done (s : State)
  /-- An instruction to run. -/
  | run (i : Instr)
deriving DecidableEq, Repr

/-- Fetch and decode (`spec/00_scope.md` R18): an exception of fetch, the model fault of R87, which
ends the run whatever `TRAP_LAYER` is (`spec/60_exceptions.md` R470; log 13), an illegal
instruction (`spec/30_encoding.md` R122), or an instruction. -/
def State.fetchDecode (s : State) : FetchStep :=
  match s.fetch with
  | .accessFault => .done (s.raise .instructionAccessFault s.pc)
  | .modified => .done (s.stop .fetchOfModifiedMemory s.pc)
  | .got x =>
    match decode s.cfg.isa x with
    | .ok i => .run i
    | .error _ => .done (s.raise .illegalInstruction x.bits)

/-- Write bytes from outside the machine: they are not stores. -/
def State.placeBytes (s : State) (a : Word) : List Byte → State
  | [] => s
  | b :: bs =>
    let t : State :=
      { s with mem := s.mem.write (a.toNat % 2 ^ s.xlen.bits) b
               modified := s.modified.filter (· != a.toNat % 2 ^ s.xlen.bits) }
    t.placeBytes (a + 1#64) bs

/-- The bytes hold an instruction of the machine. -/
def acceptsBytes (i : Isa) (bs : List Byte) : Bool :=
  match decodeBytes i bs with
  | .ok _ => true
  | .error _ => false

/-- The instruction set to run bytes on: the machine's own, unless only a reference machine has the
instruction (log 12). -/
def isaFor (i : Isa) (bs : List Byte) : Isa :=
  if acceptsBytes i bs then i
  else if acceptsBytes Isa.rv32ref bs then Isa.rv32ref
  else if acceptsBytes Isa.rv64ref bs then Isa.rv64ref
  else i

/-- The state with an instruction at `pc`, on a machine that has it (log 12). -/
def State.placeWord (s : State) (nbits w : Nat) : State :=
  let bs := tableBytes nbits w
  let t : State := { s with cfg := { s.cfg with isa := isaFor s.cfg.isa bs } }
  t.placeBytes s.pc bs

end Sys2Proof.Machine
end

