-- ==== Sys2Proof/Machine/Step.lean ====
section
/-! DEFINITION. One step of the machine (`spec/00_scope.md` R18). -/

namespace Sys2Proof.Machine

/-- One step: fetch, decode, run the instruction. A machine whose outcome record is `faulted` takes
none (`spec/10_state.md` R49). -/
def step (s : State) : Host.Outcome State Fault Refusal :=
  match s.outcome with
  | .faulted why info pc => .fault (.halted why info pc)
  | .running =>
    match s.fetchDecode with
    | .done t => .next t
    | .run i => exec i s

/-- The state with the instruction whose bits are `w` stored where the next step fetches (log 12). -/
def State.withFetchWord (s : State) (nbits w : Nat) : State := s.placeWord nbits w

end Sys2Proof.Machine
end

