-- ==== Sys2Proof/Machine/Pseudo.lean ====
section
/-! DEFINITION. The pseudoinstructions of Table B.7 (`spec/45_pseudo.md`): assembler shorthand for one
or two instructions. The machine never sees them. Rules are those of that file. -/

namespace Sys2Proof.Machine

/-! ## Splitting a 32-bit value (R423) -/

/-- `lo12(v) = v[11:0]`. -/
def lo12 (v : BitVec 32) : BitVec 12 := v.extractLsb' 0 12

/-- `hi20(v) = (v[31:12] + v[11]) mod 2^20`. -/
def hi20 (v : BitVec 32) : BitVec 20 := v.extractLsb' 12 20 + (v.extractLsb' 11 1).setWidth 20

/-! ## Offsets (`spec/30_encoding.md` R134) -/

/-- The unscaled field of `bits` bits of an even offset `label - pc`, if the offset fits. -/
def labelField (bits : Nat) (off : Int) : Option (BitVec bits) :=
  if off % 2 = 0 ∧ -2 ^ bits ≤ off ∧ off < 2 ^ bits then some (BitVec.ofInt bits (off / 2)) else none

/-- The 12-bit field of an immediate, if it fits (R134). -/
def immField (v : Int) : Option (BitVec 12) :=
  if -2048 ≤ v ∧ v ≤ 2047 then some (BitVec.ofInt 12 v) else none

/-! ## The pseudoinstructions -/

/-- `b`, `h` or `w` of a global load or store. -/
inductive AccessWidth where
  | b
  | h
  | w
deriving DecidableEq, Repr

/-- The rows of Table B.7. A branch takes the field `imm[12:1]` of its offset, a jump `imm[20:1]`;
`symbol` and `offset` are relative to the first instruction of the expansion (R423). -/
inductive Pseudo where
  /-- R391. -/
  | nop
  /-- R392. -/
  | liShort (rd : Reg) (imm : BitVec 12)
  /-- R393. -/
  | liLong (rd : Reg) (imm : BitVec 32)
  /-- R394. -/
  | mv (rd rs1 : Reg)
  /-- R395. -/
  | not (rd rs1 : Reg)
  /-- R396. -/
  | neg (rd rs1 : Reg)
  /-- R397. -/
  | seqz (rd rs1 : Reg)
  /-- R398. -/
  | snez (rd rs1 : Reg)
  /-- R399. -/
  | sltz (rd rs1 : Reg)
  /-- R400. -/
  | sgtz (rd rs1 : Reg)
  /-- R401. -/
  | beqz (rs1 : Reg) (off : BitVec 12)
  /-- R402. -/
  | bnez (rs1 : Reg) (off : BitVec 12)
  /-- R403. -/
  | blez (rs1 : Reg) (off : BitVec 12)
  /-- R404. -/
  | bgez (rs1 : Reg) (off : BitVec 12)
  /-- R405. -/
  | bltz (rs1 : Reg) (off : BitVec 12)
  /-- R406. -/
  | bgtz (rs1 : Reg) (off : BitVec 12)
  /-- R407. -/
  | ble (rs1 rs2 : Reg) (off : BitVec 12)
  /-- R408. -/
  | bgt (rs1 rs2 : Reg) (off : BitVec 12)
  /-- R409. -/
  | bleu (rs1 rs2 : Reg) (off : BitVec 12)
  /-- R410. -/
  | bgtu (rs1 rs2 : Reg) (off : BitVec 12)
  /-- R411. -/
  | j (off : BitVec 20)
  /-- R412. -/
  | jal (off : BitVec 20)
  /-- R413. -/
  | jr (rs1 : Reg)
  /-- R414. -/
  | jalr (rs1 : Reg)
  /-- R415. -/
  | ret
  /-- R416. -/
  | callNear (off : BitVec 20)
  /-- R417. -/
  | callFar (offset : BitVec 32)
  /-- R418. -/
  | la (rd : Reg) (symbol : BitVec 32)
  /-- R419: `lb`, `lh`, `lw` of a symbol. -/
  | loadGlobal (width : AccessWidth) (rd : Reg) (symbol : BitVec 32)
  /-- R420: `sb`, `sh`, `sw` to a symbol. -/
  | storeGlobal (width : AccessWidth) (rs2 : Reg) (symbol : BitVec 32) (rs1 : Reg)
  /-- R421. -/
  | crr (rd : Reg) (csr : BitVec 12)
  /-- R422. -/
  | crrw (csr : BitVec 12) (rs1 : Reg)
deriving DecidableEq, Repr

/-- The load of a width. -/
def AccessWidth.load (k : AccessWidth) (rd rs1 : Reg) (imm : BitVec 12) : Instr :=
  match k with
  | .b => .lb rd rs1 imm
  | .h => .lh rd rs1 imm
  | .w => .lw rd rs1 imm

/-- The store of a width. -/
def AccessWidth.store (k : AccessWidth) (rs2 rs1 : Reg) (imm : BitVec 12) : Instr :=
  match k with
  | .b => .sb rs2 rs1 imm
  | .h => .sh rs2 rs1 imm
  | .w => .sw rs2 rs1 imm

/-- The instructions a pseudoinstruction stands for (R390). `x0` is 0, `ra` is 1. -/
def Pseudo.expand (p : Pseudo) : List Instr :=
  match p with
  | .nop => [.addi 0#5 0#5 0#12]
  | .liShort rd imm => [.addi rd 0#5 imm]
  | .liLong rd imm => [.lui rd (hi20 imm), .addi rd rd (lo12 imm)]
  | .mv rd rs1 => [.addi rd rs1 0#12]
  | .not rd rs1 => [.xori rd rs1 (BitVec.allOnes 12)]
  | .neg rd rs1 => [.sub rd 0#5 rs1]
  | .seqz rd rs1 => [.sltiu rd rs1 1#12]
  | .snez rd rs1 => [.sltu rd 0#5 rs1]
  | .sltz rd rs1 => [.slt rd rs1 0#5]
  | .sgtz rd rs1 => [.slt rd 0#5 rs1]
  | .beqz rs1 off => [.beq rs1 0#5 off]
  | .bnez rs1 off => [.bne rs1 0#5 off]
  | .blez rs1 off => [.bge 0#5 rs1 off]
  | .bgez rs1 off => [.bge rs1 0#5 off]
  | .bltz rs1 off => [.blt rs1 0#5 off]
  | .bgtz rs1 off => [.blt 0#5 rs1 off]
  | .ble rs1 rs2 off => [.bge rs2 rs1 off]
  | .bgt rs1 rs2 off => [.blt rs2 rs1 off]
  | .bleu rs1 rs2 off => [.bgeu rs2 rs1 off]
  | .bgtu rs1 rs2 off => [.bltu rs2 rs1 off]
  | .j off => [.jal 0#5 off]
  | .jal off => [.jal 1#5 off]
  | .jr rs1 => [.jalr 0#5 rs1 0#12]
  | .jalr rs1 => [.jalr 1#5 rs1 0#12]
  | .ret => [.jalr 0#5 1#5 0#12]
  | .callNear off => [.jal 1#5 off]
  | .callFar offset => [.auipc 1#5 (hi20 offset), .jalr 1#5 1#5 (lo12 offset)]
  | .la rd symbol => [.auipc rd (hi20 symbol), .addi rd rd (lo12 symbol)]
  | .loadGlobal k rd symbol => [.auipc rd (hi20 symbol), k.load rd rd (lo12 symbol)]
  | .storeGlobal k rs2 symbol rs1 => [.auipc rs1 (hi20 symbol), k.store rs2 rs1 (lo12 symbol)]
  | .crr rd csr => [.crrs rd csr 0#5]
  | .crrw csr rs1 => [.crrw 0#5 csr rs1]

/-- `li`: the one-instruction form when the value fits 12 signed bits (R392, R393). DESIGN CHOICE
(log 31): the operand is a 32-bit pattern, read as signed, so 0xfffff800 to 0xffffffff are the values
-2048 to -1 and take the one-instruction form; R392 does not say which form such a pattern takes. -/
def Pseudo.li (rd : Reg) (imm : BitVec 32) : Pseudo :=
  match immField imm.toInt with
  | some i => .liShort rd i
  | none => .liLong rd imm

/-- `call`: the near form when the offset is in the range of `jal` (R416, R417; log 31). -/
def Pseudo.call (offset : BitVec 32) : Pseudo :=
  match labelField 20 offset.toInt with
  | some i => .callNear i
  | none => .callFar offset

end Sys2Proof.Machine
end

