-- ==== Sys2Proof/Safety.lean ====
section
/-! DEFINITION. What a state of the machine must look like, and the shapes in which the statements say
what an instruction does: which parts of the state may differ, and the value of the part written. -/

namespace Sys2Proof.Machine

/-! ## Well-formed states -/

/-- The state of a machine that started from reset: the model's data are canonical and every field
the spec restricts keeps its restriction. -/
structure State.Ok (s : State) : Prop where
  /-- Memory keeps its canonical form. -/
  mem : s.mem.wf = true
  /-- The set of stored addresses keeps its canonical form. -/
  modified : addrsOk none s.modified = true
  /-- `pc` is an `XLEN`-bit value (`spec/10_state.md` R34). -/
  pcNarrow : s.xlen.narrow s.pc = s.pc
  /-- `pc` is a multiple of `IALIGN/8` (`spec/10_state.md` R36). -/
  pcAligned : s.cfg.isa.pcAligned s.pc = true
  /-- Slot 0 of the integer file is zero (`spec/10_state.md` R31). -/
  x0 : regGet s.x 0#5 = 0#64
  /-- Integer registers are `XLEN`-bit values (`spec/10_state.md` R30). -/
  xNarrow : ∀ r, s.xlen.narrow (regGet s.x r) = regGet s.x r
  /-- Floating-point registers are `FLEN`-bit values (`spec/10_state.md` R40). -/
  fNarrow : ∀ r, flenNarrow s.cfg.isa (regGet s.f r) = regGet s.f r
  /-- `uepc` is an `XLEN`-bit instruction address (`spec/10_state.md` R43). -/
  uepc : s.cfg.isa.alignPc (s.xlen.narrow s.uepc) = s.uepc
  /-- `sepc` is an `XLEN`-bit instruction address (`spec/10_state.md` R43). -/
  sepc : s.cfg.isa.alignPc (s.xlen.narrow s.sepc) = s.sepc
  /-- `mepc` is an `XLEN`-bit instruction address (`spec/10_state.md` R43). -/
  mepc : s.cfg.isa.alignPc (s.xlen.narrow s.mepc) = s.mepc
  /-- `mtvec` is an `XLEN`-bit value with bits 1:0 zero (`spec/60_exceptions.md` R479). -/
  mtvec : s.xlen.narrow s.mtvec &&& ~~~3#64 = s.mtvec
  /-- `mscratch` is an `XLEN`-bit value. -/
  mscratch : s.xlen.narrow s.mscratch = s.mscratch
  /-- `mcause` is an `XLEN`-bit value. -/
  mcause : s.xlen.narrow s.mcause = s.mcause
  /-- `mtval` is an `XLEN`-bit value. -/
  mtval : s.xlen.narrow s.mtval = s.mtval
  /-- The further registers hold `XLEN`-bit values (`spec/10_state.md` R41). -/
  extra : ∀ c ∈ s.extra, s.xlen.narrow c.val = c.val
  /-- The mode is a member of `PRIV_MODES` (`spec/10_state.md` R46). -/
  priv : s.cfg.privModes.has s.priv = true
  /-- `MPP` is a member of `PRIV_MODES` (`spec/60_exceptions.md` R479). -/
  mpp : s.cfg.privModes.has s.mpp = true
  /-- Without the trap layer the mode is always M (`spec/60_exceptions.md` R478). -/
  faultMode : s.cfg.trapLayer = .fault → s.priv = .m

/-- The run has not stopped (`spec/10_state.md` R49). -/
def State.Running (s : State) : Prop := s.outcome = .running

/-! ## Values -/

/-- The register value of an integer: its residue modulo `2^XLEN` (`spec/00_scope.md` R12). -/
def HoldsInt (x : Xlen) (v : Word) (n : Int) : Prop := (v.toNat : Int) = n % 2 ^ x.bits

/-- The unsigned reading of an integer register. -/
def State.ux (s : State) (r : Reg) : Nat := s.xlen.unsigned (s.readX r)

/-- The signed reading of an integer register. -/
def State.sx (s : State) (r : Reg) : Int := s.xlen.signed (s.readX r)

/-- The signed reading of the low 32 bits of an integer register (`spec/41_rv64i.md` R200). -/
def State.wx (s : State) (r : Reg) : Int := (low32 (s.readX r)).toInt

/-- The unsigned reading of the low 32 bits of an integer register. -/
def State.wux (s : State) (r : Reg) : Nat := (low32 (s.readX r)).toNat

/-- The two's-complement reading of the low `bits` bits of a number. -/
def signedOf (bits : Nat) (n : Int) : Int :=
  if n % 2 ^ bits < 2 ^ (bits - 1) then n % 2 ^ bits else n % 2 ^ bits - 2 ^ bits

/-- The number in the bytes at the listed addresses, the first the least significant
(`spec/20_memory.md` R74). -/
def byteSum (m : Memory) : List Nat → Nat
  | [] => 0
  | a :: as => (m.read a).toNat + 256 * byteSum m as

/-- What a single-precision pattern looks like in a register (`spec/42_rvfd.md` R233). -/
def State.boxed (s : State) (v : BitVec 32) : Word :=
  if s.cfg.isa.flen64 then 0xffffffff#32 ++ v else v.setWidth 64

/-- What a pattern of a precision looks like in a register. -/
def State.packed (s : State) (p : Prec) (v : Nat) : Word :=
  match p with
  | .single => s.boxed (BitVec.ofNat 32 v)
  | .double => BitVec.ofNat 64 v

/-! ## Frames -/

/-- The sequential advance (`spec/10_state.md` R35). -/
def PcAdvanced (s t : State) (ilen : Nat) : Prop :=
  t.pc.toNat = (s.pc.toNat + ilen) % 2 ^ s.xlen.bits

/-- Nothing but `x[rd]` and `pc` differs; `x0` still reads as zero. -/
structure OnlyX (s t : State) (rd : Reg) : Prop where
  fields : t = { s with x := t.x, pc := t.pc }
  regs : ∀ r, r ≠ rd → t.readX r = s.readX r
  zero : t.readX 0#5 = 0#64
  bytes : ∀ a, t.mem.read a = s.mem.read a

/-- Nothing but `pc` differs. -/
structure OnlyPc (s t : State) : Prop where
  fields : t = { s with pc := t.pc }
  bytes : ∀ a, t.mem.read a = s.mem.read a

/-- Nothing but `x[rd]`, `fflags` and `pc` differs. -/
structure OnlyXFlags (s t : State) (rd : Reg) : Prop where
  fields : t = { s with x := t.x, fflags := t.fflags, pc := t.pc }
  regs : ∀ r, r ≠ rd → t.readX r = s.readX r
  zero : t.readX 0#5 = 0#64
  bytes : ∀ a, t.mem.read a = s.mem.read a

/-- Nothing but `f[fd]`, `fflags` and `pc` differs. -/
structure OnlyF (s t : State) (fd : Reg) : Prop where
  fields : t = { s with f := t.f, fflags := t.fflags, pc := t.pc }
  regs : ∀ r, r ≠ fd → t.readF r = s.readF r
  bytes : ∀ a, t.mem.read a = s.mem.read a

/-- Nothing but what a register of `CSR_FILE` is stored in differs: of `mstatus` its three fields, of
`fcsr` the two fields it is a window on (`spec/10_state.md` R43, R44, `spec/60_exceptions.md` R479). -/
def OnlyCsr (c : Csr) (s t : State) : Prop :=
  match c with
  | .fflags => t = { s with fflags := t.fflags }
  | .frm => t = { s with frm := t.frm }
  | .fcsr => t = { s with frm := t.frm, fflags := t.fflags }
  | .uepc => t = { s with uepc := t.uepc }
  | .sepc => t = { s with sepc := t.sepc }
  | .mepc => t = { s with mepc := t.mepc }
  | .mstatus => t = { s with mie := t.mie, mpie := t.mpie, mpp := t.mpp }
  | .mtvec => t = { s with mtvec := t.mtvec }
  | .mscratch => t = { s with mscratch := t.mscratch }
  | .mcause => t = { s with mcause := t.mcause }
  | .mtval => t = { s with mtval := t.mtval }

/-- Nothing but the bytes at the listed addresses, the record of stored addresses and `pc` differs;
the record gains exactly those addresses (`spec/20_memory.md` R73, R87). -/
structure OnlyStored (s t : State) (addrs : List Nat) : Prop where
  fields : t = { s with mem := t.mem, modified := t.modified, pc := t.pc }
  bytes : ∀ a, a ∉ addrs → t.mem.read a = s.mem.read a
  record : ∀ a, a ∈ t.modified ↔ a ∈ s.modified ∨ a ∈ addrs

/-! ## What an instruction does -/

/-- The instruction goes on to a state where `x[rd]` is the integer `n`, nothing else but `pc`
differs, and `pc` has advanced. With `rd = x0` nothing is written. -/
def RunsX (s : State) (i : Instr) (rd : Reg) (ilen : Nat) (n : Int) : Prop :=
  ∃ t, exec i s = .next t ∧ OnlyX s t rd ∧ (rd ≠ 0#5 → HoldsInt s.xlen (t.readX rd) n) ∧
    PcAdvanced s t ilen

/-- As `RunsX`, and the flags are or-ed into `fflags` (`spec/10_state.md` R44). -/
def RunsXFlags (s : State) (i : Instr) (rd : Reg) (n : Int) (fl : FlagSet) : Prop :=
  ∃ t, exec i s = .next t ∧ OnlyXFlags s t rd ∧ (rd ≠ 0#5 → HoldsInt s.xlen (t.readX rd) n) ∧
    t.fflags = s.fflags ||| fl ∧ PcAdvanced s t 4

/-- The instruction goes on to a state where `f[fd]` is `v`, the flags are or-ed into `fflags`, and
`pc` has advanced. -/
def RunsF (s : State) (i : Instr) (fd : Reg) (ilen : Nat) (v : Word) (fl : FlagSet) : Prop :=
  ∃ t, exec i s = .next t ∧ OnlyF s t fd ∧ t.readF fd = v ∧ t.fflags = s.fflags ||| fl ∧
    PcAdvanced s t ilen

/-- The instruction stores the low `n` bytes of `v` at `ea` and `pc` advances. -/
def RunsStore (s : State) (i : Instr) (ea : Word) (n : Nat) (v : Nat) (ilen : Nat) : Prop :=
  ∃ t, exec i s = .next t ∧ OnlyStored s t (s.accessAddrs ea n) ∧
    byteSum t.mem (s.accessAddrs ea n) = v % 256 ^ n ∧ PcAdvanced s t ilen

/-- The instruction raises (`spec/00_scope.md` R17). -/
def Raises (s : State) (i : Instr) (e : Exc) (info : Word) : Prop :=
  exec i s = .next (s.raise e info)

/-- A jump or a taken branch to `pc + off`: an aligned target becomes `pc`, another raises with the
target as info (`spec/10_state.md` R36). -/
def Jumps (s : State) (i : Instr) (off : Int) : Prop :=
  let target := (s.pc.toNat + off) % 2 ^ s.xlen.bits
  if target % s.cfg.isa.ialignBytes = 0 then
    ∃ t, exec i s = .next t ∧ OnlyPc s t ∧ (t.pc.toNat : Int) = target
  else Raises s i .instructionAddressMisaligned (BitVec.ofInt 64 target)

/-- A conditional branch (`spec/40_rv32i.md` R181). -/
def Branches (s : State) (i : Instr) (cond : Prop) (off : Int) (ilen : Nat) : Prop :=
  (cond → Jumps s i off) ∧
  (¬cond → ∃ t, exec i s = .next t ∧ OnlyPc s t ∧ PcAdvanced s t ilen)

/-- A jump to `target` that writes the link register (`spec/40_rv32i.md` R187, R188); a misaligned
target raises and writes nothing. -/
def JumpsLinking (s : State) (i : Instr) (rd : Reg) (target : Int) (ilen : Nat) : Prop :=
  if target % s.cfg.isa.ialignBytes = 0 then
    ∃ t, exec i s = .next t ∧ OnlyX s t rd ∧ (t.pc.toNat : Int) = target ∧
      (rd ≠ 0#5 → HoldsInt s.xlen (t.readX rd) (s.pc.toNat + ilen))
  else Raises s i .instructionAddressMisaligned (BitVec.ofInt 64 target)

/-- A CSR instruction that completes: `u` is the state after its CSR write, if it writes; `rd` takes the
old value (`spec/46_priv_csr.md` R452). -/
def RunsCsr (s : State) (i : Instr) (rd : Reg) (n : BitVec 12) (u : State) : Prop :=
  ∃ t, exec i s = .next t ∧ t = { u with x := t.x, pc := t.pc } ∧
    (∀ r, r ≠ rd → t.readX r = s.readX r) ∧ t.readX 0#5 = 0#64 ∧
    (rd ≠ 0#5 → HoldsInt s.xlen (t.readX rd) (s.readCsr n).toNat) ∧
    (∀ a, t.mem.read a = s.mem.read a) ∧ PcAdvanced s t 4

/-- An environment call ends with the service `h` performed (`spec/70_reset_and_hazards.md` R526): only
what the row writes differs, and the run resumes after the call or has ended. -/
structure Served (s t : State) (h : HostService) : Prop where
  fields : t = { s with x := t.x, f := t.f, mem := t.mem, modified := t.modified, pc := t.pc,
                        outcome := t.outcome, draws := t.draws }
  regs : ∀ r : Reg, .x r ∉ h.regsWritten → t.readX r = s.readX r
  fregs : ∀ r : Reg, .f r ∉ h.regsWritten → t.readF r = s.readF r
  zero : t.readX 0#5 = 0#64
  bytes : ∀ a, a ∉ s.hostWrites h → t.mem.read a = s.mem.read a
  record : ∀ a, a ∈ t.modified ↔ a ∈ s.modified ∨ a ∈ s.hostWrites h
  resumed : h.resumes = true → t.outcome = .running ∧ PcAdvanced s t 4
  ended : h.resumes = false →
    t.outcome = .faulted (.exception (.environmentCall s.priv)) 0#64 s.pc ∧ t.pc = s.pc

/-- A floating-point computation completes with a result of `FP_NUMERICS`: a pattern of the precision
and a set of flags. -/
def RunsFp (s : State) (i : Instr) (p : Prec) (fd : Reg) (res : Nat × FlagSet) : Prop :=
  RunsF s i fd 4 (s.packed p res.1) res.2

/-- A result of `DIV_CORNERS` as an integer (`spec/43_rvm.md` R310). -/
def cornerInt (c : CornerResult) (dividend : Nat) : Int :=
  match c with
  | .dividend => dividend
  | .value v => v.toNat

/-- The two divisor classes `DIV_CORNERS` is about: a zero divisor, and the signed overflow. -/
def State.Overflows (s : State) (rs1 rs2 : Reg) : Prop :=
  s.sx rs1 = -2 ^ (s.xlen.bits - 1) ∧ s.sx rs2 = -1

/-- An immediate extended by sign to `XLEN` bits, as an unsigned number. -/
def State.immU (s : State) {w : Nat} (imm : BitVec w) : Nat := (imm.toInt % 2 ^ s.xlen.bits).toNat

/-- The six CSR instructions. -/
def isCsrInstr (i : Instr) : Bool :=
  match i with
  | .crrw .. | .crrs .. | .crrc .. | .crrwi .. | .crrsi .. | .crrci .. => true
  | _ => false

/-- The bytes of an instruction, the first at the lowest address (`spec/20_memory.md` R75). -/
def fetchedBytes (x : Fetched) : List Byte :=
  match x with
  | .half h => [h.extractLsb' 0 8, h.extractLsb' 8 8]
  | .full w => [w.extractLsb' 0 8, w.extractLsb' 8 8, w.extractLsb' 16 8, w.extractLsb' 24 8]

/-- The low two bits of an instruction agree with its length (`spec/30_encoding.md` R101). -/
def tagFits (x : Fetched) : Bool :=
  match x with
  | .half h => !isFull h
  | .full w => isFull (w.extractLsb' 0 16)

/-- An access that the alignment rule admits (`spec/20_memory.md` R76). -/
def State.Aligned (s : State) (ea : Word) (n : Nat) : Prop :=
  ea.toNat % n = 0 ∨ s.cfg.misaligned = .split

/-- Every byte of the access is readable (`spec/20_memory.md` R82). -/
def State.Readable (s : State) (ea : Word) (n : Nat) : Prop :=
  ∀ a ∈ s.accessAddrs ea n, s.canRead a = true

/-- Every byte of the access is writable (`spec/20_memory.md` R82). -/
def State.Writable (s : State) (ea : Word) (n : Nat) : Prop :=
  ∀ a ∈ s.accessAddrs ea n, s.canWrite a = true

/-! ## Shapes of a memory access -/

/-- The instruction loads `n` bytes at `ea` into `x[rd]`, as the integer `value` makes of them: for
every access the rules admit. -/
def LoadsX (s : State) (i : Instr) (rd : Reg) (ea : Word) (n ilen : Nat) (value : Nat → Int) : Prop :=
  s.Aligned ea n → s.Readable ea n → RunsX s i rd ilen (value (byteSum s.mem (s.accessAddrs ea n)))

/-- The instruction loads `n` bytes at `ea` into `f[fd]`. -/
def LoadsF (s : State) (i : Instr) (fd : Reg) (ea : Word) (n ilen : Nat) (value : Nat → Word) : Prop :=
  s.Aligned ea n → s.Readable ea n →
    RunsF s i fd ilen (value (byteSum s.mem (s.accessAddrs ea n))) 0#5

/-- The instruction stores the low `n` bytes of `v` at `ea`: for every access the rules admit. -/
def Stores (s : State) (i : Instr) (ea : Word) (n v ilen : Nat) : Prop :=
  s.mem.wf = true → s.Aligned ea n → s.Writable ea n → RunsStore s i ea n v ilen

/-- The address and the size of the access of a load (`spec/20_memory.md` R78). -/
def State.loadAccess (s : State) (i : Instr) : Option (Word × Nat) :=
  match i with
  | .lb _ rs1 imm => some (s.ea rs1 (immI imm), 1)
  | .lh _ rs1 imm => some (s.ea rs1 (immI imm), 2)
  | .lw _ rs1 imm => some (s.ea rs1 (immI imm), 4)
  | .lbu _ rs1 imm => some (s.ea rs1 (immI imm), 1)
  | .lhu _ rs1 imm => some (s.ea rs1 (immI imm), 2)
  | .ld _ rs1 imm => some (s.ea rs1 (immI imm), 8)
  | .lwu _ rs1 imm => some (s.ea rs1 (immI imm), 4)
  | .flw _ rs1 imm => some (s.ea rs1 (immI imm), 4)
  | .fld _ rs1 imm => some (s.ea rs1 (immI imm), 8)
  | .cLw _ rs1 imm => some (s.ea rs1.reg (immCw imm), 4)
  | .cFlw _ rs1 imm => some (s.ea rs1.reg (immCw imm), 4)
  | .cFld _ rs1 imm => some (s.ea rs1.reg (immCd imm), 8)
  | .cLwsp _ imm => some (s.ea 2#5 (immCwsp imm), 4)
  | .cFlwsp _ imm => some (s.ea 2#5 (immCwsp imm), 4)
  | .cFldsp _ imm => some (s.ea 2#5 (immCdsp imm), 8)
  | _ => none

/-- The address, the size and the value of the access of a store (`spec/20_memory.md` R78). -/
def State.storeAccess (s : State) (i : Instr) : Option (Word × Nat × Word) :=
  match i with
  | .sb rs2 rs1 imm => some (s.ea rs1 (immI imm), 1, s.readX rs2)
  | .sh rs2 rs1 imm => some (s.ea rs1 (immI imm), 2, s.readX rs2)
  | .sw rs2 rs1 imm => some (s.ea rs1 (immI imm), 4, s.readX rs2)
  | .sd rs2 rs1 imm => some (s.ea rs1 (immI imm), 8, s.readX rs2)
  | .fsw fs2 rs1 imm => some (s.ea rs1 (immI imm), 4, zext (s.rawS fs2))
  | .fsd fs2 rs1 imm => some (s.ea rs1 (immI imm), 8, s.rdD fs2)
  | .cSw rs2 rs1 imm => some (s.ea rs1.reg (immCw imm), 4, s.readX rs2.reg)
  | .cFsw fs2 rs1 imm => some (s.ea rs1.reg (immCw imm), 4, zext (s.rawS fs2.reg))
  | .cFsd fs2 rs1 imm => some (s.ea rs1.reg (immCd imm), 8, s.rdD fs2.reg)
  | .cSwsp rs2 imm => some (s.ea 2#5 (immCwsp imm), 4, s.readX rs2)
  | .cFswsp fs2 imm => some (s.ea 2#5 (immCwsp imm), 4, zext (s.rawS fs2))
  | .cFsdsp fs2 imm => some (s.ea 2#5 (immCdsp imm), 8, s.rdD fs2)
  | _ => none

/-! ## Fields of an instruction -/

/-- The `rm` field of the instructions that have one (`spec/42_rvfd.md` R230 (d)). -/
def rmOf (i : Instr) : Option RmField :=
  match i with
  | .fmaddS _ _ _ _ rm | .fmaddD _ _ _ _ rm | .fmsubS _ _ _ _ rm | .fmsubD _ _ _ _ rm
  | .fnmsubS _ _ _ _ rm | .fnmsubD _ _ _ _ rm | .fnmaddS _ _ _ _ rm | .fnmaddD _ _ _ _ rm
  | .faddS _ _ _ rm | .faddD _ _ _ rm | .fsubS _ _ _ rm | .fsubD _ _ _ rm
  | .fmulS _ _ _ rm | .fmulD _ _ _ rm | .fdivS _ _ _ rm | .fdivD _ _ _ rm
  | .fsqrtS _ _ rm | .fsqrtD _ _ rm
  | .fcvtWS _ _ rm | .fcvtWuS _ _ rm | .fcvtSW _ _ rm | .fcvtSWu _ _ rm
  | .fcvtWD _ _ rm | .fcvtWuD _ _ rm | .fcvtDW _ _ rm | .fcvtDWu _ _ rm
  | .fcvtSD _ _ rm | .fcvtDS _ _ rm => some rm
  | _ => none

/-- The machine has no instruction with these bits (`spec/30_encoding.md` R122). -/
def Rejected (isa : Isa) (x : Fetched) : Prop := ∃ r, decode isa x = .error r

/-- The number of bytes fetched: 4 when the low two bits of the first parcel are `11`, else 2
(`spec/30_encoding.md` R101). -/
def State.fetchLength (s : State) : Nat :=
  if byteSum s.mem (s.accessAddrs s.pc 2) % 4 = 3 then 4 else 2

/-! ## What the functions of `FP_NUMERICS` give (`spec/42_rvfd.md` R234) -/

/-- The sign of a number. -/
def FpVal.sign : FpVal → Bool
  | .nan _ => false
  | .inf n => n
  | .finite n _ _ => n

/-- `(-1)^neg * mant * 2^exp` in units of `2^e`, for `e ≤ exp`. -/
def scaled (neg : Bool) (mant : Nat) (exp e : Int) : Int :=
  signedMant neg (mant * 2 ^ (exp - e).toNat)

/-- The order of the values; a NaN is below and above nothing. -/
def FpVal.lt (x y : FpVal) : Prop :=
  match x, y with
  | .inf n, .inf m => n = true ∧ m = false
  | .inf n, .finite _ _ _ => n = true
  | .finite _ _ _, .inf m => m = false
  | .finite n1 m1 e1, .finite n2 m2 e2 =>
    scaled n1 m1 e1 (min e1 e2) < scaled n2 m2 e2 (min e1 e2)
  | .nan _, _ => False
  | .inf _, .nan _ => False
  | .finite _ _ _, .nan _ => False

/-- The same value: the two zeros are, a NaN is the same as nothing. -/
def FpVal.same (x y : FpVal) : Prop :=
  match x, y with
  | .inf n, .inf m => n = m
  | .finite n1 m1 e1, .finite n2 m2 e2 =>
    scaled n1 m1 e1 (min e1 e2) = scaled n2 m2 e2 (min e1 e2)
  | .nan _, _ => False
  | .inf _, .nan _ => False
  | .inf _, .finite _ _ _ => False
  | .finite _ _ _, .nan _ => False
  | .finite _ _ _, .inf _ => False

/-- The exact product; none for a NaN and for `0 * inf`. -/
def FpVal.product (x y : FpVal) : Option FpVal :=
  match x, y with
  | .inf n, .inf m => some (.inf (n != m))
  | .inf n, .finite n2 m2 _ => if m2 = 0 then none else some (.inf (n != n2))
  | .finite n1 m1 _, .inf m => if m1 = 0 then none else some (.inf (n1 != m))
  | .finite n1 m1 e1, .finite n2 m2 e2 => some (.finite (n1 != n2) (m1 * m2) (e1 + e2))
  | .nan _, _ => none
  | .inf _, .nan _ => none
  | .finite _ _ _, .nan _ => none

/-- A signed zero and a signed infinity, with no flag. -/
def Prec.zeroOf (p : Prec) (neg : Bool) : Nat × FlagSet := (if neg then 2 ^ (p.ebits + p.fbits) else 0, 0#5)

def Prec.infOf (p : Prec) (neg : Bool) : Nat × FlagSet :=
  ((p.zeroOf neg).1 + (2 ^ p.ebits - 1) * 2 ^ p.fbits, 0#5)

/-- The canonical NaN, with NV if the operation is invalid. -/
def Prec.nanOf (p : Prec) (invalid : Bool) : Nat × FlagSet :=
  ((2 ^ p.ebits - 1) * 2 ^ p.fbits + 2 ^ (p.fbits - 1), if invalid then flagNV else 0#5)

/-- The sum of two values: the special cases, the sign of an exact zero, else the exact sum rounded
once. -/
def SumIs (p : Prec) (mode : RoundMode) (x y : FpVal) (res : Nat × FlagSet) : Prop :=
  match x, y with
  | .inf n, .inf m => res = if n = m then p.infOf n else p.nanOf true
  | .inf n, .finite _ _ _ => res = p.infOf n
  | .finite _ _ _, .inf m => res = p.infOf m
  | .finite n1 m1 e1, .finite n2 m2 e2 =>
    let e := min e1 e2
    let v := scaled n1 m1 e1 e + scaled n2 m2 e2 e
    (v = 0 → res = p.zeroOf (if n1 = n2 then n1 else mode == .rdn)) ∧
    (v ≠ 0 → res = p.round mode (decide (v < 0)) v.natAbs e)
  | .nan a, .nan b => res = p.nanOf (a || b)
  | .nan a, _ => res = p.nanOf a
  | _, .nan b => res = p.nanOf b

/-- The product of two values, rounded once; `0 * inf` is invalid. -/
def ProductIs (p : Prec) (mode : RoundMode) (x y : FpVal) (res : Nat × FlagSet) : Prop :=
  match x.product y with
  | none => res = p.nanOf (x.isSignaling || y.isSignaling || !(x.isNaN || y.isNaN))
  | some (.finite n m e) =>
    (m = 0 → res = p.zeroOf n) ∧ (m ≠ 0 → res = p.round mode n m e)
  | some w => res = p.infOf w.sign

/-- The fused operation: the exact product plus the addend, rounded once; `0 * inf` is invalid whatever
the addend. -/
def FusedIs (p : Prec) (mode : RoundMode) (x y z : FpVal) (res : Nat × FlagSet) : Prop :=
  match x.product y with
  | none =>
    res = p.nanOf (x.isSignaling || y.isSignaling || z.isSignaling || !(x.isNaN || y.isNaN))
  | some w => SumIs p mode w z res

/-- `mant` stands for a number with more digits: it is exact, or it is odd, has two bits more than the
format keeps, and the number lies within one unit of it. Its rounding is then that of the number.
`cmp` compares a candidate with the number. -/
def StandsFor (p : Prec) (mant : Nat) (cmp : Nat → Ordering) : Prop :=
  cmp mant = .eq ∨
    (mant % 2 = 1 ∧ 2 ^ (p.fbits + 3) ≤ mant ∧ cmp (mant - 1) = .lt ∧ cmp (mant + 1) = .gt)

/-- The quotient of two values: the special cases, else the exact quotient rounded once. -/
def QuotientIs (p : Prec) (mode : RoundMode) (x y : FpVal) (res : Nat × FlagSet) : Prop :=
  match x, y with
  | .inf _, .inf _ => res = p.nanOf true
  | .inf n, .finite n2 _ _ => res = p.infOf (n != n2)
  | .finite n1 _ _, .inf m => res = p.zeroOf (n1 != m)
  | .finite n1 m1 e1, .finite n2 m2 e2 =>
    (m1 = 0 → m2 = 0 → res = p.nanOf true) ∧
    (m1 ≠ 0 → m2 = 0 → res = ((p.infOf (n1 != n2)).1, flagDZ)) ∧
    (m1 = 0 → m2 ≠ 0 → res = p.zeroOf (n1 != n2)) ∧
    (m1 ≠ 0 → m2 ≠ 0 → ∃ mant j : Nat,
      StandsFor p mant (fun k => compare (k * m2) (m1 * 2 ^ j)) ∧
      res = p.round mode (n1 != n2) mant (e1 - e2 - j))
  | .nan a, .nan b => res = p.nanOf (a || b)
  | .nan a, _ => res = p.nanOf a
  | _, .nan b => res = p.nanOf b

/-- The square root of a value: the special cases, else the exact root rounded once. -/
def RootIs (p : Prec) (mode : RoundMode) (x : FpVal) (res : Nat × FlagSet) : Prop :=
  match x with
  | .nan a => res = p.nanOf a
  | .inf n => res = if n then p.nanOf true else p.infOf false
  | .finite n m e =>
    (m = 0 → res = p.zeroOf n) ∧ (m ≠ 0 → n = true → res = p.nanOf true) ∧
    (m ≠ 0 → n = false → ∃ (mant j : Nat) (h : Int), e = 2 * h + j ∧
      StandsFor p mant (fun k => compare (k * k) (m * 2 ^ j)) ∧ res = p.round mode false mant h)

/-- Minimum and maximum (`spec/42_rvfd.md` R252, R253). -/
def MinMaxIs (p : Prec) (a b : Nat) (least greatest : Nat × FlagSet) : Prop :=
  let x := p.unpack a
  let y := p.unpack b
  let minusZero := 2 ^ (p.ebits + p.fbits)
  least.2 = greatest.2 ∧
  (least.2 = if x.isSignaling || y.isSignaling then flagNV else 0#5) ∧
  (x.isNaN = true → y.isNaN = true →
    least.1 = (p.nanOf false).1 ∧ greatest.1 = (p.nanOf false).1) ∧
  (x.isNaN = true → y.isNaN = false → least.1 = b ∧ greatest.1 = b) ∧
  (x.isNaN = false → y.isNaN = true → least.1 = a ∧ greatest.1 = a) ∧
  (x.lt y → least.1 = a ∧ greatest.1 = b) ∧ (y.lt x → least.1 = b ∧ greatest.1 = a) ∧
  (a = minusZero → b = 0 → least.1 = a ∧ greatest.1 = b) ∧
  (a = 0 → b = minusZero → least.1 = b ∧ greatest.1 = a) ∧
  (a = b → x.isNaN = false → least.1 = a ∧ greatest.1 = a)

/-- The comparisons (`spec/42_rvfd.md` R254 to R256). -/
def ComparisonsAre (p : Prec) (a b : Nat) (eq lt le : Bool × FlagSet) : Prop :=
  let x := p.unpack a
  let y := p.unpack b
  (eq.1 = true ↔ x.same y) ∧ (lt.1 = true ↔ x.lt y) ∧ (le.1 = true ↔ x.lt y ∨ x.same y) ∧
  ((x.isNaN = true ∨ y.isNaN = true) →
    eq.1 = false ∧ lt = (false, flagNV) ∧ le = (false, flagNV)) ∧
  (x.isNaN = false → y.isNaN = false → lt.2 = 0#5 ∧ le.2 = 0#5) ∧
  (eq.2 = if x.isSignaling || y.isSignaling then flagNV else 0#5)

/-- The ten classes, by the fields of the pattern (`spec/42_rvfd.md` R257). -/
def ClassIs (p : Prec) (a c : Nat) : Prop :=
  let neg := a / 2 ^ (p.ebits + p.fbits) % 2
  let e := a / 2 ^ p.fbits % 2 ^ p.ebits
  let m := a % 2 ^ p.fbits
  let top := 2 ^ p.ebits - 1
  (e = top → m = 0 → c = if neg = 1 then 2 ^ 0 else 2 ^ 7) ∧
  (e = top → m ≠ 0 → c = if m < 2 ^ (p.fbits - 1) then 2 ^ 8 else 2 ^ 9) ∧
  (e = 0 → m = 0 → c = if neg = 1 then 2 ^ 3 else 2 ^ 4) ∧
  (e = 0 → m ≠ 0 → c = if neg = 1 then 2 ^ 2 else 2 ^ 5) ∧
  (e ≠ 0 → e ≠ top → c = if neg = 1 then 2 ^ 1 else 2 ^ 6)

/-- Conversion of a value to an integer of the range `lo .. hi` (`spec/42_rvfd.md` R260, R261): `res` is
the integer and the flags. -/
def ToIntIs (mode : RoundMode) (lo hi : Int) (x : FpVal) (res : Int × FlagSet) : Prop :=
  match x with
  | .nan _ => res = (hi, flagNV)
  | .inf n => res = (if n then lo else hi, flagNV)
  | .finite n m e =>
    let r := roundAt mode n m e 0
    let i := signedMant n r.1
    (lo ≤ i → i ≤ hi → res = (i, if r.2 then flagNX else 0#5)) ∧
    (i < lo → res = (lo, flagNV)) ∧ (hi < i → res = (hi, flagNV))

/-- Conversion of an integer (`spec/42_rvfd.md` R262, R263). -/
def FromIntIs (p : Prec) (mode : RoundMode) (i : Int) (res : Nat × FlagSet) : Prop :=
  (i = 0 → res = (0, 0#5)) ∧ (i ≠ 0 → res = p.round mode (decide (i < 0)) i.natAbs 0)

/-- Conversion of a value to a precision (`spec/42_rvfd.md` R272, R273). -/
def ConvertIs (p : Prec) (mode : RoundMode) (x : FpVal) (res : Nat × FlagSet) : Prop :=
  match x with
  | .nan a => res = p.nanOf a
  | .inf n => res = p.infOf n
  | .finite n m e => (m = 0 → res = p.zeroOf n) ∧ (m ≠ 0 → res = p.round mode n m e)

/-! ## The fields of the control and status registers -/

/-- A field holds a bit. -/
def fieldCovers (f : CsrField) (k : Nat) : Prop := f.lo ≤ k ∧ k < f.lo + f.width

/-- No two fields share a bit, and all lie in a slot. -/
def FieldsApart (d : CsrDesc) : Prop :=
  d.fields.Pairwise (fun f g => ∀ k, ¬(fieldCovers f k ∧ fieldCovers g k)) ∧
  ∀ f ∈ d.fields, f.lo + f.width ≤ 64

/-- What a write of `v` leaves in bit `k` of a register given by its fields, where it held `old`
(`spec/46_priv_csr.md` R452 (4), (6)). -/
def CsrBitIs (d : CsrDesc) (old v : Word) (k : Nat) (bit : Bool) : Prop :=
  ((∀ f ∈ d.fields, ¬fieldCovers f k) → bit = old.getLsbD k) ∧
  ∀ f ∈ d.fields, fieldCovers f k →
    match f.kind with
    | .any => bit = v.getLsbD k
    | .readOnly => bit = old.getLsbD k
    | .zero => bit = false
    | .legal vs =>
      bit = if (v.extractLsb' f.lo f.width).setWidth 64 ∈ vs then v.getLsbD k else old.getLsbD k

/-- What a register holds after `v` is written to it: its write rule in arithmetic
(`spec/10_state.md` R43, R44, `spec/60_exceptions.md` R479). -/
def State.csrStored (s : State) (c : Csr) (v : Nat) : Nat :=
  match c with
  | .fflags => v % 32
  | .frm => v % 8
  | .fcsr => v % 256
  | .uepc | .sepc | .mepc => v % 2 ^ s.xlen.bits / s.cfg.isa.ialignBytes * s.cfg.isa.ialignBytes
  | .mtvec => v % 2 ^ s.xlen.bits / 4 * 4
  | .mscratch | .mcause | .mtval => v % 2 ^ s.xlen.bits
  | .mstatus =>
    let m := v / 2048 % 4
    let legal := m = 3 ∨ (m = 1 ∧ s.cfg.privModes.has .s = true) ∨ (m = 0 ∧ s.cfg.privModes.has .u = true)
    8 * (v / 8 % 2) + 128 * (v / 128 % 2) + 2048 * (if legal then m else s.mpp.code.toNat)

/-- The registers a write to one also shows in: `fcsr` is a window on `fflags` and `frm`
(`spec/10_state.md` R44). -/
def csrShares (c d : Csr) : Bool :=
  match c with
  | .fcsr => d == .fcsr || d == .fflags || d == .frm
  | .fflags => d == .fflags || d == .fcsr
  | .frm => d == .frm || d == .fcsr
  | .uepc | .sepc | .mepc | .mstatus | .mtvec | .mscratch | .mcause | .mtval => d == c

/-- The mode that bits 9:8 of a number ask for (`spec/46_priv_csr.md` R452 (2)). -/
def modeAsked (n : BitVec 12) : Nat :=
  if n.toNat / 256 % 4 = 2 then 3 else n.toNat / 256 % 4

end Sys2Proof.Machine
end

