-- ==== Sys2Proof/Certificates/Slice0/Obligations.lean ====
section
/-! DEFINITION. The statements about the model. Each cites the rules of `spec/` it formalises. -/

section Statements

open Sys2Proof Sys2Proof.Machine

/-! ## Encoding -/

/-- Decoding the encoding of an instruction of the machine gives it back (`spec/30_encoding.md` R121). -/
def Obligations.DecodeEncode : Prop :=
  ∀ (isa : Isa) (i : Instr), i.wf isa = true → decode isa (encode i) = .ok i

/-- Bits that decode are the encoding of what they decode to, and that is an instruction of the
machine: no two words are one instruction, and no bit is ignored (R121 (3)). -/
def Obligations.EncodeDecode : Prop :=
  ∀ (isa : Isa) (x : Fetched) (i : Instr), decode isa x = .ok i → encode i = x ∧ i.wf isa = true

/-- The bytes of an instruction, the first at the lowest address, decode to it and leave the bytes
after it (`spec/20_memory.md` R75). -/
def Obligations.DecodeBytesOfEncoding : Prop :=
  ∀ (isa : Isa) (i : Instr) (rest : List Byte), i.wf isa = true →
    decodeBytes isa (fetchedBytes (encode i) ++ rest) = .ok (i, rest)

/-- Words the spec writes out decode to the instructions it says they are: one of each table, in the
examples of `spec/40_rv32i.md` R157, R158, R181, R188, `spec/41_rv64i.md` R203, `spec/42_rvfd.md`
R272, `spec/43_rvm.md` R311, `spec/44_rvc.md` R332, `spec/46_priv_csr.md` R442, R446. -/
def Obligations.WrittenWordsDecode : Prop :=
  decodeTableWord 32 0x00158513 = some (.addi 10#5 11#5 1#12) ∧
  decodeTableWord 32 0x02459513 = some (.slli 10#5 11#5 36#6) ∧
  decodeTableWord 32 0xfeb50ce3 = some (.beq 10#5 11#5 (BitVec.ofInt 12 (-4))) ∧
  decodeTableWord 32 0x001000ef = some (.jal 1#5 1024#20) ∧
  decodeTableWord 32 0x0015851b = some (.addiw 10#5 11#5 1#12) ∧
  decodeTableWord 32 0x4015f553 = some (.fcvtSD 10#5 11#5 .dyn) ∧
  decodeTableWord 32 0x02c58533 = some (.mul 10#5 11#5 12#5) ∧
  decodeTableWord 16 0x0808 = some (.cAddi4spn 2#3 4#8) ∧
  decodeTableWord 32 0x00100073 = some .ebreak ∧
  decodeTableWord 32 0x34159573 = some (.crrw 10#5 0x341#12 11#5)

/-- The 16-bit values of `spec/30_encoding.md` R130 (a) to (h) are no instructions. -/
def Obligations.ReservedHalfwordsRejected : Prop :=
  ∀ (isa : Isa) (h : BitVec 16),
    let op := h.extractLsb' 0 2
    let funct3 := h.extractLsb' 13 3
    ((op = 0#2 ∧ funct3 = 4#3) → Rejected isa (.half h)) ∧
    ((op = 0#2 ∧ funct3 = 0#3 ∧ h.extractLsb' 5 8 = 0#8) → Rejected isa (.half h)) ∧
    ((op = 1#2 ∧ funct3 = 3#3 ∧ h.extractLsb' 12 1 = 0#1 ∧ h.extractLsb' 2 5 = 0#5) →
      Rejected isa (.half h)) ∧
    ((op = 1#2 ∧ funct3 = 4#3 ∧ h.extractLsb' 11 1 = 0#1 ∧ h.extractLsb' 12 1 = 1#1) →
      Rejected isa (.half h)) ∧
    ((op = 2#2 ∧ funct3 = 0#3 ∧ h.extractLsb' 12 1 = 1#1) → Rejected isa (.half h)) ∧
    ((op = 1#2 ∧ h.extractLsb' 10 6 = 0b100111#6) → Rejected isa (.half h)) ∧
    ((op = 2#2 ∧ funct3 = 2#3 ∧ h.extractLsb' 7 5 = 0#5) → Rejected isa (.half h)) ∧
    (h = 0x8002#16 → Rejected isa (.half h)) ∧
    ((isa.hasD = false ∧ (op = 0#2 ∨ op = 2#2) ∧ (funct3 = 1#3 ∨ funct3 = 5#3)) →
      Rejected isa (.half h)) ∧
    ((isa.hasF = false ∧ (op = 0#2 ∨ op = 2#2) ∧ (funct3 = 3#3 ∨ funct3 = 7#3)) →
      Rejected isa (.half h))

/-- What a machine does not have: an `op` that R120 does not list; with `XLEN = 32` the rows of Table
B.2 and shift amounts of 32 and more (R135 (a), (b)); without `C` any 16-bit value (R121 (1)); without
`S` any word of op 115 (`spec/46_priv_csr.md` R440 (a)); without `M` the words of Table B.5 (R123);
the precisions 2 and 3 (R119); without `F` every floating-point row, without `D` the double ones, `fld`
and `fsd` and the conversions between the precisions among them (`spec/42_rvfd.md` R230 (a)). -/
def Obligations.UnlistedWordsRejected : Prop :=
  ∀ (isa : Isa) (w : BitVec 32) (h : BitVec 16),
    let op := w.extractLsb' 0 7
    let funct3 := w.extractLsb' 12 3
    let fpAccess := op = 0b0000111#7 ∨ op = 0b0100111#7
    let fpRow := op = 0b1000011#7 ∨ op = 0b1000111#7 ∨ op = 0b1001011#7 ∨ op = 0b1001111#7 ∨
      op = 0b1010011#7
    (op ∉ [0b0000011#7, 0b0000111#7, 0b0010011#7, 0b0010111#7, 0b0011011#7, 0b0100011#7,
        0b0100111#7, 0b0110011#7, 0b0110111#7, 0b0111011#7, 0b1000011#7, 0b1000111#7, 0b1001011#7,
        0b1001111#7, 0b1010011#7, 0b1100011#7, 0b1100111#7, 0b1101111#7, 0b1110011#7] →
      Rejected isa (.full w)) ∧
    (isa.xlen = .x32 → (op = 0b0011011#7 ∨ op = 0b0111011#7 ∨
        (op = 0b0000011#7 ∧ (funct3 = 3#3 ∨ funct3 = 6#3)) ∨ (op = 0b0100011#7 ∧ funct3 = 3#3)) →
      Rejected isa (.full w)) ∧
    (isa.xlen = .x32 → op = 0b0010011#7 → (funct3 = 1#3 ∨ funct3 = 5#3) →
      w.extractLsb' 25 1 = 1#1 → Rejected isa (.full w)) ∧
    (isa.hasC = false → Rejected isa (.half h)) ∧
    (isa.s = false → op = 0b1110011#7 → Rejected isa (.full w)) ∧
    (isa.m = false → op = 0b0110011#7 → w.extractLsb' 25 7 = 1#7 → Rejected isa (.full w)) ∧
    (fpRow → (w.extractLsb' 25 2 = 2#2 ∨ w.extractLsb' 25 2 = 3#2) → Rejected isa (.full w)) ∧
    (isa.hasF = false → (fpAccess ∨ fpRow) → Rejected isa (.full w)) ∧
    (isa.hasD = false → (fpAccess ∧ funct3 = 3#3 ∨ fpRow ∧ w.extractLsb' 25 2 = 1#2 ∨
        op = 0b1010011#7 ∧ w.extractLsb' 27 5 = 0b01000#5) → Rejected isa (.full w))

/-- Telling the length (`spec/30_encoding.md` R101): a fetched instruction is 32 bits long, with the
parcel at `pc` as its low half, when the low two bits of that parcel are `11`, and that parcel
otherwise; a word of `instr[6:2] = 11111` is no instruction. -/
def Obligations.LengthOfInstruction : Prop :=
  (∀ (s : State) (x : Fetched), s.fetch = .got x →
    ((s.parcelAt s.pc).extractLsb' 0 2 = 0b11#2 → ∃ hi : BitVec 16, x = .full (hi ++ s.parcelAt s.pc)) ∧
    ((s.parcelAt s.pc).extractLsb' 0 2 ≠ 0b11#2 → x = .half (s.parcelAt s.pc))) ∧
  (∀ (isa : Isa) (w : BitVec 32), w.extractLsb' 0 7 = 0b1111111#7 → Rejected isa (.full w))

/-! ## Steps -/

/-- A step of a running machine runs the instruction it fetched and decoded (`spec/00_scope.md` R18). -/
def Obligations.StepRunsDecodedInstruction : Prop :=
  ∀ (s : State) (x : Fetched) (i : Instr),
    s.Running → s.fetch = .got x → decode s.cfg.isa x = .ok i → step s = exec i s

/-- A machine whose memory holds the encoding of one of its instructions at `pc`, executable and not
stored to, runs that instruction (`spec/20_memory.md` R75). -/
def Obligations.StepRunsInstructionInMemory : Prop :=
  ∀ (s : State) (i : Instr),
    s.Running → i.wf s.cfg.isa = true →
    byteSum s.mem (s.accessAddrs s.pc (encode i).ilen) = (encode i).bits.toNat →
    (∀ a ∈ s.accessAddrs s.pc (encode i).ilen, s.canExec a = true ∧ a ∉ s.modified) →
    step s = exec i s

/-- Fetching a byte that is not executable raises, and fetching a byte stored to since reset ends the
run, whatever `TRAP_LAYER` is; access is checked first (`spec/20_memory.md` R75, R82, R87,
`spec/60_exceptions.md` R474). -/
def Obligations.FetchFaults : Prop :=
  ∀ (s : State), s.Running →
    ((∃ a ∈ s.accessAddrs s.pc s.fetchLength, s.canExec a = false) →
      step s = .next (s.raise .instructionAccessFault s.pc)) ∧
    ((∀ a ∈ s.accessAddrs s.pc s.fetchLength, s.canExec a = true) →
      (∃ a ∈ s.accessAddrs s.pc s.fetchLength, a ∈ s.modified) →
      step s = .next { s with outcome := .faulted .fetchOfModifiedMemory (s.xlen.narrow s.pc) s.pc })

/-- The outcome record (`spec/10_state.md` R49): a raise under `TRAP_LAYER = fault` makes it
`faulted(E, info, pc)`; a machine with such a record takes no step, so the record is never cleared. -/
def Obligations.HaltedMachine : Prop :=
  (∀ (s : State) (e : Exc) (info : Word), s.cfg.trapLayer = .fault →
    (s.raise e info).outcome = .faulted (.exception e) (s.xlen.narrow info) s.pc) ∧
  (∀ (s : State) (why : StopReason) (info pc : Word), s.outcome = .faulted why info pc →
    step s = .fault (.halted why info pc))

/-- A fetched value that no row accepts raises `IllegalInstruction` with its bits and has no other
effect (`spec/30_encoding.md` R122). -/
def Obligations.UnlistedEncodingRaises : Prop :=
  ∀ (s : State) (x : Fetched), s.Running → s.fetch = .got x → Rejected s.cfg.isa x →
    step s = .next (s.raise .illegalInstruction x.bits)

/-- The 16-bit value 0 at `pc` is illegal with or without `C`; the parcel after it is not fetched
(`spec/30_encoding.md` R131). -/
def Obligations.ZeroParcelIsIllegal : Prop :=
  ∀ (s : State), s.Running → byteSum s.mem (s.accessAddrs s.pc 2) = 0 →
    (∀ a ∈ s.accessAddrs s.pc 2, s.canExec a = true ∧ a ∉ s.modified) →
    step s = .next (s.raise .illegalInstruction 0#64)

/-! ## Exceptions and privilege -/

/-- Under `TRAP_LAYER = fault` a raise changes the outcome record alone and the machine takes no
further step (`spec/60_exceptions.md` R472). -/
def Obligations.FaultLayerRaise : Prop :=
  ∀ (s : State) (e : Exc) (info : Word), s.cfg.trapLayer = .fault →
    s.raise e info = { s with outcome := .faulted (.exception e) (s.xlen.narrow info) s.pc } ∧
    step (s.raise e info) = .fault (.halted (.exception e) (s.xlen.narrow info) s.pc)

/-- Trap entry under the layer (`spec/60_exceptions.md` R480), with the codes of R470: `mepc`,
`mcause`, `mtval`, `MPIE`, `MIE`, `MPP`, the mode and `pc` change, nothing else. That the entry is the same on
a machine whose `CSR_FILE` lacks one of these registers is the model's choice (log 34). -/
def Obligations.TrapEntry : Prop :=
  (∀ (s : State) (e : Exc) (info : Word), s.Ok → s.cfg.trapLayer = .mmode →
    s.raise e info =
      { s with mepc := s.pc, mcause := BitVec.ofNat 64 e.code, mtval := s.xlen.narrow info,
               mpie := s.mie, mie := false, mpp := s.priv, priv := .m, pc := s.mtvec }) ∧
  Exc.code .instructionAddressMisaligned = 0 ∧ Exc.code .instructionAccessFault = 1 ∧
  Exc.code .illegalInstruction = 2 ∧ Exc.code .breakpoint = 3 ∧
  Exc.code .loadAddressMisaligned = 4 ∧ Exc.code .loadAccessFault = 5 ∧
  Exc.code .storeAddressMisaligned = 6 ∧ Exc.code .storeAccessFault = 7 ∧
  Exc.code (.environmentCall .u) = 8 ∧ Exc.code (.environmentCall .s) = 9 ∧
  Exc.code (.environmentCall .m) = 11

/-- `mret` in mode M under the layer (`spec/60_exceptions.md` R481): `pc` becomes `mepc`, the mode
`MPP`, `MIE` becomes `MPIE`, `MPIE` becomes 1 and `MPP` the lowest mode; nothing else changes. -/
def Obligations.MachineReturn : Prop :=
  ∀ (s : State), s.cfg.isa.s = true → s.cfg.trapLayer = .mmode → s.hasCsr .mepc = true →
    s.priv = .m →
    exec .mret s = .next
      { s with pc := s.xlen.narrow (s.readCsr 0x341#12), priv := s.mpp, mie := s.mpie, mpie := true,
               mpp := if s.cfg.privModes.has .u then .u else .m }

/-- The returns that only copy an exception program counter (`spec/46_priv_csr.md` R443 to R445,
`spec/60_exceptions.md` R482), and the ones that trap: `uret` without `uepc`, `sret` in mode U or without
`sepc` (R443, R444), `mret` below M (R445). That `mret` without `mepc` traps too is the model's
deduction (log 19): R445 does not name the case. That a register is absent where `extraCsrs` alone has
its number is the model's choice (log 34). -/
def Obligations.ReturnsFromException : Prop :=
  ∀ (s : State), s.cfg.isa.s = true →
    (s.hasCsr .uepc = true →
      ∃ t, exec .uret s = .next t ∧ OnlyPc s t ∧ t.pc = s.xlen.narrow (s.readCsr 0x041#12)) ∧
    (s.hasCsr .sepc = true → s.priv ≠ .u →
      ∃ t, exec .sret s = .next t ∧ OnlyPc s t ∧ t.pc = s.xlen.narrow (s.readCsr 0x141#12)) ∧
    (s.hasCsr .mepc = true → s.priv = .m → s.cfg.trapLayer = .fault →
      ∃ t, exec .mret s = .next t ∧ OnlyPc s t ∧ t.pc = s.xlen.narrow (s.readCsr 0x341#12)) ∧
    (s.hasCsr .uepc = false → Raises s .uret .illegalInstruction 0x00200073#64) ∧
    ((s.priv = .u ∨ s.hasCsr .sepc = false) → Raises s .sret .illegalInstruction 0x10200073#64) ∧
    ((s.priv ≠ .m ∨ s.hasCsr .mepc = false) → Raises s .mret .illegalInstruction 0x30200073#64)

/-- `ecall` raises `EnvironmentCall` with info 0, `ebreak` and `c.ebreak` raise `Breakpoint` with their
own address (`spec/46_priv_csr.md` R441, R442, `spec/44_rvc.md` R361). Under `TRAP_LAYER = fault` a row
of `HOST` that the stopped state selects is then performed (`spec/70_reset_and_hazards.md` R526); the
reference `HOST` has no row. What a row can say, and that it is performed in the same step, is the
model's (log 20). -/
def Obligations.CallsAndBreakpoints : Prop :=
  ∀ (s : State),
    (s.cfg.isa.s = true → s.cfg.host = [] → Raises s .ecall (.environmentCall s.priv) 0#64) ∧
    (s.cfg.isa.s = true → (s.cfg.trapLayer = .mmode ∨ s.hostRow = none) →
      Raises s .ecall (.environmentCall s.priv) 0#64) ∧
    (∀ h, s.cfg.isa.s = true → s.cfg.trapLayer = .fault → s.hostRow = some h →
      ∃ t, exec .ecall s = .next t ∧ Served s t h) ∧
    (s.cfg.isa.s = true → Raises s .ebreak .breakpoint s.pc) ∧
    (s.cfg.isa.hasC = true → Raises s .cEbreak .breakpoint s.pc)

/-- The transitions of the mode (`spec/60_exceptions.md` R478): reset leaves M; under
`TRAP_LAYER = fault` no step changes the mode; under `mmode` every exception enters M, at the handler's
address, `mret` enters `MPP`, and there is no other transition. -/
def Obligations.ModeTransitions : Prop :=
  (∀ (c : Config) (l : Launch), (State.resetWith c l).priv = .m) ∧
  (∀ (s : State) (e : Exc) (info : Word), s.cfg.trapLayer = .mmode → (s.raise e info).priv = .m) ∧
  (∀ (s : State), s.cfg.trapLayer = .mmode → s.cfg.isa.s = true → s.hasCsr .mepc = true →
    s.priv = .m → ∃ t, exec .mret s = .next t ∧ t.priv = s.mpp) ∧
  (∀ (s t : State), step s = .next t →
    (s.cfg.trapLayer = .fault → t.priv = s.priv) ∧
    (t.priv = s.priv ∨
      (t.priv = .m ∧ t.pc = s.mtvec &&& ~~~3#64 ∧ t.mpp = s.priv ∧ t.x = s.x ∧ t.f = s.f) ∨
      (s.priv = .m ∧ s.fetchDecode = .run .mret ∧ t.priv = s.mpp)))

/-- Below mode M no step changes a register of mode M but by an exception, which enters M
(`spec/46_priv_csr.md` R452 (2), `spec/60_exceptions.md` R477, R480). Of the further registers of
`CSR_FILE`, whose form is the model's (log 18), an exception changes none, and no step changes one whose
number asks for a mode above the current one. -/
def Obligations.MachineRegistersProtected : Prop :=
  ∀ (s t : State), s.priv ≠ .m → step s = .next t →
    t.mtvec = s.mtvec ∧ t.mscratch = s.mscratch ∧
    (∀ n, s.priv.code.toNat < modeAsked n → t.extraVal n = s.extraVal n) ∧
    (t.priv ≠ .m →
      t.priv = s.priv ∧ t.mepc = s.mepc ∧ t.mcause = s.mcause ∧ t.mtval = s.mtval ∧
      t.mie = s.mie ∧ t.mpie = s.mpie ∧ t.mpp = s.mpp)

/-! ## Memory -/

/-- A stored value lies in memory with its least significant byte at the first address, every other
byte reads as before (`spec/20_memory.md` R73, R74, R80), and loading it gives it back. -/
def Obligations.StoredValueIsLittleEndian : Prop :=
  ∀ (m : Memory) (as : List Nat) (v : Word), m.wf = true → as.Nodup → as.length ≤ 8 →
    (m.writeLE as v).wf = true ∧ (∀ a, a ∉ as → (m.writeLE as v).read a = m.read a) ∧
    (∀ k a, as[k]? = some a → (m.writeLE as v).read a = v.extractLsb' (8 * k) 8) ∧
    ((m.writeLE as v).readLE as).toNat = v.toNat % 256 ^ as.length ∧
    (m.readLE as).toNat = byteSum m as

/-- Effective addresses wrap, and so do the addresses of an access (`spec/20_memory.md` R89). -/
def Obligations.EffectiveAddressWraps : Prop :=
  ∀ (s : State) (rs1 : Reg) (imm : BitVec 12),
    ((s.ea rs1 (immI imm)).toNat : Int) = (s.ux rs1 + imm.toInt) % 2 ^ s.xlen.bits ∧
    ∀ (n k : Nat), k < n →
      (s.accessAddrs (s.ea rs1 (immI imm)) n)[k]? =
        some (((s.ea rs1 (immI imm)).toNat + k) % 2 ^ s.xlen.bits)

/-- The exceptions of loads (`spec/20_memory.md` R72, R76, R82): a misaligned address first, then a byte
that is not readable; `info` is the effective address. -/
def Obligations.LoadExceptions : Prop :=
  ∀ (s : State) (i : Instr) (ea : Word) (n : Nat),
    i.wf s.cfg.isa = true → s.loadAccess i = some (ea, n) →
    (s.cfg.misaligned = .fault → ea.toNat % n ≠ 0 → Raises s i .loadAddressMisaligned ea) ∧
    (s.Aligned ea n → ¬s.Readable ea n → Raises s i .loadAccessFault ea)

/-- The exceptions of stores (`spec/20_memory.md` R73, R76, R82). A store that raises writes nothing,
but for a split access, which may have written some of the bytes below the first one it may not write
(R76); how many is a free value, and the count of draws is the model's own (log 15). -/
def Obligations.StoreExceptions : Prop :=
  ∀ (s : State) (i : Instr) (ea : Word) (n : Nat) (v : Word),
    i.wf s.cfg.isa = true → s.storeAccess i = some (ea, n, v) →
    (s.cfg.misaligned = .fault → ea.toNat % n ≠ 0 → Raises s i .storeAddressMisaligned ea) ∧
    (ea.toNat % n = 0 → ¬s.Writable ea n → Raises s i .storeAccessFault ea) ∧
    (s.cfg.misaligned = .split → ea.toNat % n ≠ 0 → ¬s.Writable ea n →
      ∃ k, exec i s = .next
        (State.raise { s.storeBytes (((s.accessAddrs ea n).takeWhile s.canWrite).take k) v with
          draws := s.draws + 1 } .storeAccessFault ea))

/-! ## What every step keeps -/

/-- Every step keeps the invariant: canonical memory, an aligned `pc`, `x0` zero, registers of `XLEN`
and `FLEN` bits, legal modes, reserved bits zero (`spec/10_state.md` R30, R31, R34, R36, R40, R43,
R46, `spec/60_exceptions.md` R478, R479). -/
def Obligations.StepKeepsOk : Prop :=
  ∀ (s t : State), s.Ok → step s = .next t → t.Ok

/-- The state right after reset has the invariant. Its register values are the model's choice (logs 3
to 9), which the invariant does not depend on (see `ResetWithOk`). -/
def Obligations.ResetOk : Prop := State.reset.Ok

/-- Reset of any machine gives the invariant, whatever the unspecified values are
(`spec/70_reset_and_hazards.md` R521). -/
def Obligations.ResetWithOk : Prop :=
  ∀ (c : Config) (l : Launch), c.wf = true → (State.resetWith c l).Ok

/-- A machine keeps its parameters for ever (`spec/00_scope.md` R6), and `x0` reads as zero in every
state (`spec/10_state.md` R31). -/
def Obligations.StepKeepsParameters : Prop :=
  ∀ (s t : State), step s = .next t → t.cfg = s.cfg ∧ t.readX 0#5 = 0#64

/-- A byte of memory that a step changes is recorded as modified, and the record only grows
(`spec/20_memory.md` R87, of the bytes that stores change). That a byte written by a service of `HOST` is
recorded too is the model's choice (log 20): R87 speaks of stores alone. -/
def Obligations.ChangedBytesAreRecorded : Prop :=
  ∀ (s t : State), step s = .next t →
    (∀ a, t.mem.read a ≠ s.mem.read a → a ∈ t.modified) ∧ (∀ a ∈ s.modified, a ∈ t.modified)

/-- Only a CSR instruction clears a flag (`spec/10_state.md` R44) or writes `frm`, `uepc`, `sepc`,
`mtvec`, `mscratch` or a further register (R41, R43). -/
def Obligations.OnlyCsrInstructionsClearFlags : Prop :=
  ∀ (s t : State), step s = .next t →
    (∃ i, s.fetchDecode = .run i ∧ isCsrInstr i = true) ∨
    (s.fflags &&& t.fflags = s.fflags ∧ t.frm = s.frm ∧ t.uepc = s.uepc ∧ t.sepc = s.sepc ∧
      t.mtvec = s.mtvec ∧ t.mscratch = s.mscratch ∧ t.extra = s.extra)

/-! ## Reset -/

/-- What reset leaves (`spec/70_reset_and_hazards.md` R521), for any parameters and any values of what
is unspecified: every register not named there holds the value drawn for it, cut to its width, with its
hard-wired bits zero. The registers that the spec does not describe are the model's (log 18), and the
count of free values drawn is (logs 15, 20). -/
def Obligations.ResetValues : Prop :=
  ∀ (c : Config) (l : Launch),
    let s := State.resetWith c l
    let n := 2 ^ c.xlen.bits
    let ia := c.isa.ialignBytes
    s.cfg = c ∧ s.pc = c.resetPc ∧ s.readX 0#5 = 0#64 ∧
    (∀ r : Reg, r ≠ 0#5 → (s.readX r).toNat = (regGet l.x r).toNat % n) ∧
    (∀ r : Reg, s.readF r = if c.isa.flen64 then regGet l.f r else (low32 (regGet l.f r)).setWidth 64) ∧
    s.fflags = l.fflags ∧ s.frm = l.frm ∧ s.priv = .m ∧ s.mie = false ∧ s.mpie = false ∧
    s.mpp = .m ∧ s.mstatus = 0x1800#64 ∧
    s.uepc.toNat = l.uepc.toNat % n / ia * ia ∧ s.sepc.toNat = l.sepc.toNat % n / ia * ia ∧
    s.mepc.toNat = l.mepc.toNat % n / ia * ia ∧ s.mtvec.toNat = l.mtvec.toNat % n / 4 * 4 ∧
    s.mscratch.toNat = l.mscratch.toNat % n ∧ s.mcause.toNat = l.mcause.toNat % n ∧
    s.mtval.toNat = l.mtval.toNat % n ∧
    (∀ (k : BitVec 12) (d : CsrDesc), s.extraDesc k = some d →
      (∀ v, d.reset = some v → (s.extraVal k).toNat = v.toNat % n) ∧
      (d.reset = none →
        s.extraVal k = c.xlen.narrow (d.initial (lookupCsr l.extraFill k l.extra)))) ∧
    s.modified = [] ∧ s.outcome = .running ∧ s.draws = 0

/-- After reset a byte of the launch image reads as the image says and every other byte as the one
drawn (`spec/10_state.md` R55). The image is a list of pieces that do not overlap, so any finite map from
addresses to bytes. That one byte is drawn for all the others is the model's (log 9). -/
def Obligations.ResetImage : Prop :=
  ∀ (c : Config) (l : Launch),
    let addrs := l.image.flatMap fun p => (List.range p.2.length).map (p.1 + ·)
    addrs.Nodup → (∀ a ∈ addrs, a < 2 ^ c.xlen.bits) →
    (∀ p ∈ l.image, ∀ k b, p.2[k]? = some b → (State.resetWith c l).mem.read (p.1 + k) = b) ∧
    (∀ a, a ∉ addrs → (State.resetWith c l).mem.read a = l.fill)

/-! ## Integer instructions -/

/-- `x0` reads as zero and a write to it changes nothing; any other register holds what was written,
and a write changes no other register (`spec/10_state.md` R30, R31). -/
def Obligations.IntegerRegisterFile : Prop :=
  ∀ (s : State) (r q : Reg) (v : Word),
    s.readX 0#5 = 0#64 ∧ s.writeX 0#5 v = s ∧
    (r ≠ 0#5 → (s.writeX r v).readX r = s.xlen.narrow v) ∧
    (q ≠ r → (s.writeX r v).readX q = s.readX q)

/-- `add`, `sub`, `and`, `or`, `xor`, `slt`, `sltu`, `sll`, `srl`, `sra` (`spec/40_rv32i.md` R170 to
R179). -/
def Obligations.RegisterArithmetic : Prop :=
  ∀ (s : State) (rd rs1 rs2 : Reg),
    RunsX s (.add rd rs1 rs2) rd 4 (s.sx rs1 + s.sx rs2) ∧
    RunsX s (.sub rd rs1 rs2) rd 4 (s.sx rs1 - s.sx rs2) ∧
    RunsX s (.and rd rs1 rs2) rd 4 (s.ux rs1 &&& s.ux rs2 : Nat) ∧
    RunsX s (.or rd rs1 rs2) rd 4 (s.ux rs1 ||| s.ux rs2 : Nat) ∧
    RunsX s (.xor rd rs1 rs2) rd 4 (s.ux rs1 ^^^ s.ux rs2 : Nat) ∧
    RunsX s (.slt rd rs1 rs2) rd 4 (if s.sx rs1 < s.sx rs2 then 1 else 0) ∧
    RunsX s (.sltu rd rs1 rs2) rd 4 (if s.ux rs1 < s.ux rs2 then 1 else 0) ∧
    RunsX s (.sll rd rs1 rs2) rd 4 (s.ux rs1 * 2 ^ (s.ux rs2 % s.xlen.bits) : Nat) ∧
    RunsX s (.srl rd rs1 rs2) rd 4 (s.ux rs1 / 2 ^ (s.ux rs2 % s.xlen.bits) : Nat) ∧
    RunsX s (.sra rd rs1 rs2) rd 4 (s.sx rs1 / 2 ^ (s.ux rs2 % s.xlen.bits))

/-- `addi`, `slti`, `sltiu`, `xori`, `ori`, `andi`, `slli`, `srli`, `srai`, `lui`, `auipc`
(`spec/40_rv32i.md` R157 to R166, R180). -/
def Obligations.ImmediateArithmetic : Prop :=
  ∀ (s : State) (rd rs1 : Reg) (imm : BitVec 12) (shamt : BitVec 6) (upimm : BitVec 20),
    RunsX s (.addi rd rs1 imm) rd 4 (s.sx rs1 + imm.toInt) ∧
    RunsX s (.slti rd rs1 imm) rd 4 (if s.sx rs1 < imm.toInt then 1 else 0) ∧
    RunsX s (.sltiu rd rs1 imm) rd 4 (if s.ux rs1 < s.immU imm then 1 else 0) ∧
    RunsX s (.xori rd rs1 imm) rd 4 (s.ux rs1 ^^^ s.immU imm : Nat) ∧
    RunsX s (.ori rd rs1 imm) rd 4 (s.ux rs1 ||| s.immU imm : Nat) ∧
    RunsX s (.andi rd rs1 imm) rd 4 (s.ux rs1 &&& s.immU imm : Nat) ∧
    (shamt.toNat < s.xlen.bits →
      RunsX s (.slli rd rs1 shamt) rd 4 (s.ux rs1 * 2 ^ shamt.toNat : Nat) ∧
      RunsX s (.srli rd rs1 shamt) rd 4 (s.ux rs1 / 2 ^ shamt.toNat : Nat) ∧
      RunsX s (.srai rd rs1 shamt) rd 4 (s.sx rs1 / 2 ^ shamt.toNat)) ∧
    RunsX s (.lui rd upimm) rd 4 (upimm.toInt * 4096) ∧
    RunsX s (.auipc rd upimm) rd 4 (s.pc.toNat + upimm.toInt * 4096)

/-- The word instructions of Table B.2 (`spec/41_rv64i.md` R200, R203 to R206, R208 to R212). -/
def Obligations.WordArithmetic : Prop :=
  ∀ (s : State) (rd rs1 rs2 : Reg) (imm : BitVec 12) (shamt : BitVec 5), s.xlen = .x64 →
    RunsX s (.addiw rd rs1 imm) rd 4 (signedOf 32 (s.wx rs1 + imm.toInt)) ∧
    RunsX s (.slliw rd rs1 shamt) rd 4 (signedOf 32 (s.wux rs1 * 2 ^ shamt.toNat : Nat)) ∧
    RunsX s (.srliw rd rs1 shamt) rd 4 (signedOf 32 (s.wux rs1 / 2 ^ shamt.toNat : Nat)) ∧
    RunsX s (.sraiw rd rs1 shamt) rd 4 (s.wx rs1 / 2 ^ shamt.toNat) ∧
    RunsX s (.addw rd rs1 rs2) rd 4 (signedOf 32 (s.wx rs1 + s.wx rs2)) ∧
    RunsX s (.subw rd rs1 rs2) rd 4 (signedOf 32 (s.wx rs1 - s.wx rs2)) ∧
    RunsX s (.sllw rd rs1 rs2) rd 4 (signedOf 32 (s.wux rs1 * 2 ^ (s.wux rs2 % 32) : Nat)) ∧
    RunsX s (.srlw rd rs1 rs2) rd 4 (signedOf 32 (s.wux rs1 / 2 ^ (s.wux rs2 % 32) : Nat)) ∧
    RunsX s (.sraw rd rs1 rs2) rd 4 (s.wx rs1 / 2 ^ (s.wux rs2 % 32))

/-- `mul`, `mulh`, `mulhsu`, `mulhu` (`spec/43_rvm.md` R311 to R314). -/
def Obligations.Multiplication : Prop :=
  ∀ (s : State) (rd rs1 rs2 : Reg), s.cfg.isa.m = true →
    RunsX s (.mul rd rs1 rs2) rd 4 (s.ux rs1 * s.ux rs2 : Nat) ∧
    RunsX s (.mulh rd rs1 rs2) rd 4 (s.sx rs1 * s.sx rs2 / 2 ^ s.xlen.bits) ∧
    RunsX s (.mulhsu rd rs1 rs2) rd 4 (s.sx rs1 * s.ux rs2 / 2 ^ s.xlen.bits) ∧
    RunsX s (.mulhu rd rs1 rs2) rd 4 (s.ux rs1 * s.ux rs2 / 2 ^ s.xlen.bits : Nat)

/-- `div`, `divu`, `rem`, `remu` (`spec/43_rvm.md` R310 (e), R315 to R318): a zero divisor and the
signed overflow give the results of `DIV_CORNERS`, every other pair the quotient rounded toward zero
and the remainder with the sign of the dividend. The reference `DIV_CORNERS` are all ones and the
dividend for a zero divisor, `-2^(XLEN-1)` and 0 for the overflow. -/
def Obligations.Division : Prop :=
  ∀ (s : State) (rd rs1 rs2 : Reg), s.cfg.isa.m = true →
    (s.ux rs2 = 0 →
      RunsX s (.div rd rs1 rs2) rd 4 (cornerInt s.cfg.div.zeroQuot (s.ux rs1)) ∧
      RunsX s (.divu rd rs1 rs2) rd 4 (cornerInt s.cfg.div.zeroQuot (s.ux rs1)) ∧
      RunsX s (.rem rd rs1 rs2) rd 4 (cornerInt s.cfg.div.zeroRem (s.ux rs1)) ∧
      RunsX s (.remu rd rs1 rs2) rd 4 (cornerInt s.cfg.div.zeroRem (s.ux rs1))) ∧
    (s.Overflows rs1 rs2 →
      RunsX s (.div rd rs1 rs2) rd 4 (cornerInt s.cfg.div.ovfQuot (s.ux rs1)) ∧
      RunsX s (.rem rd rs1 rs2) rd 4 (cornerInt s.cfg.div.ovfRem (s.ux rs1))) ∧
    (s.ux rs2 ≠ 0 →
      RunsX s (.divu rd rs1 rs2) rd 4 (s.ux rs1 / s.ux rs2 : Nat) ∧
      RunsX s (.remu rd rs1 rs2) rd 4 (s.ux rs1 % s.ux rs2 : Nat)) ∧
    (s.ux rs2 ≠ 0 → ¬s.Overflows rs1 rs2 →
      RunsX s (.div rd rs1 rs2) rd 4 ((s.sx rs1).tdiv (s.sx rs2)) ∧
      RunsX s (.rem rd rs1 rs2) rd 4 ((s.sx rs1).tmod (s.sx rs2))) ∧
    (s.cfg.div = DivCorners.reference → s.ux rs2 = 0 →
      RunsX s (.div rd rs1 rs2) rd 4 (-1) ∧ RunsX s (.divu rd rs1 rs2) rd 4 (2 ^ s.xlen.bits - 1) ∧
      RunsX s (.rem rd rs1 rs2) rd 4 (s.sx rs1) ∧ RunsX s (.remu rd rs1 rs2) rd 4 (s.ux rs1)) ∧
    (s.cfg.div = DivCorners.reference → s.Overflows rs1 rs2 →
      RunsX s (.div rd rs1 rs2) rd 4 (-2 ^ (s.xlen.bits - 1)) ∧ RunsX s (.rem rd rs1 rs2) rd 4 0)

/-- The integer loads (`spec/40_rv32i.md` R151 to R156, `spec/41_rv64i.md` R201, R202). -/
def Obligations.IntegerLoads : Prop :=
  ∀ (s : State) (rd rs1 : Reg) (imm : BitVec 12),
    let ea := s.ea rs1 (immI imm)
    LoadsX s (.lb rd rs1 imm) rd ea 1 4 (fun v => signedOf 8 v) ∧
    LoadsX s (.lh rd rs1 imm) rd ea 2 4 (fun v => signedOf 16 v) ∧
    LoadsX s (.lw rd rs1 imm) rd ea 4 4 (fun v => signedOf 32 v) ∧
    LoadsX s (.lbu rd rs1 imm) rd ea 1 4 (fun v => v) ∧
    LoadsX s (.lhu rd rs1 imm) rd ea 2 4 (fun v => v) ∧
    (s.xlen = .x64 → LoadsX s (.lwu rd rs1 imm) rd ea 4 4 (fun v => v)) ∧
    (s.xlen = .x64 → LoadsX s (.ld rd rs1 imm) rd ea 8 4 (fun v => v))

/-- The integer stores (`spec/40_rv32i.md` R151, R167 to R169, `spec/41_rv64i.md` R207). -/
def Obligations.IntegerStores : Prop :=
  ∀ (s : State) (rs2 rs1 : Reg) (imm : BitVec 12),
    let ea := s.ea rs1 (immI imm)
    Stores s (.sb rs2 rs1 imm) ea 1 (s.ux rs2) 4 ∧
    Stores s (.sh rs2 rs1 imm) ea 2 (s.ux rs2) 4 ∧
    Stores s (.sw rs2 rs1 imm) ea 4 (s.ux rs2) 4 ∧
    (s.xlen = .x64 → Stores s (.sd rs2 rs1 imm) ea 8 (s.ux rs2) 4)

/-- The conditional branches (`spec/40_rv32i.md` R181 to R186): the target is checked only when the
branch is taken (`spec/10_state.md` R36). -/
def Obligations.ConditionalBranches : Prop :=
  ∀ (s : State) (rs1 rs2 : Reg) (imm : BitVec 12),
    Branches s (.beq rs1 rs2 imm) (s.ux rs1 = s.ux rs2) (2 * imm.toInt) 4 ∧
    Branches s (.bne rs1 rs2 imm) (s.ux rs1 ≠ s.ux rs2) (2 * imm.toInt) 4 ∧
    Branches s (.blt rs1 rs2 imm) (s.sx rs1 < s.sx rs2) (2 * imm.toInt) 4 ∧
    Branches s (.bge rs1 rs2 imm) (s.sx rs1 ≥ s.sx rs2) (2 * imm.toInt) 4 ∧
    Branches s (.bltu rs1 rs2 imm) (s.ux rs1 < s.ux rs2) (2 * imm.toInt) 4 ∧
    Branches s (.bgeu rs1 rs2 imm) (s.ux rs1 ≥ s.ux rs2) (2 * imm.toInt) 4

/-- `jal` and `jalr` (`spec/40_rv32i.md` R187, R188): bit 0 of the target of `jalr` is cleared, the
link is the address after the instruction, and a misaligned target raises and links nothing. -/
def Obligations.JumpAndLink : Prop :=
  ∀ (s : State) (rd rs1 : Reg) (imm : BitVec 12) (off : BitVec 20),
    JumpsLinking s (.jal rd off) rd ((s.pc.toNat + 2 * off.toInt) % 2 ^ s.xlen.bits) 4 ∧
    JumpsLinking s (.jalr rd rs1 imm) rd ((s.ux rs1 + imm.toInt) % 2 ^ s.xlen.bits / 2 * 2) 4

/-- The pair of immediates that a 32-bit value is split into (`spec/45_pseudo.md` R423), and the rows
that use it. -/
def Obligations.SplitImmediate : Prop :=
  ∀ (v : BitVec 32) (rd rs2 rs1 : Reg) (k : AccessWidth),
    (lo12 v).toNat = v.toNat % 4096 ∧
    (hi20 v).toNat = (v.toNat / 4096 + v.toNat / 2048 % 2) % 2 ^ 20 ∧
    (hi20 v ++ 0#12 : BitVec 32) + (lo12 v).signExtend 32 = v ∧
    (Pseudo.liLong rd v).expand = [.lui rd (hi20 v), .addi rd rd (lo12 v)] ∧
    (Pseudo.callFar v).expand = [.auipc 1#5 (hi20 v), .jalr 1#5 1#5 (lo12 v)] ∧
    (Pseudo.la rd v).expand = [.auipc rd (hi20 v), .addi rd rd (lo12 v)] ∧
    (Pseudo.loadGlobal k rd v).expand = [.auipc rd (hi20 v), k.load rd rd (lo12 v)] ∧
    (Pseudo.storeGlobal k rs2 v rs1).expand = [.auipc rs1 (hi20 v), k.store rs2 rs1 (lo12 v)]

/-- The two instructions of `li` leave the 32-bit value, and those of `la` the address of the symbol
(`spec/45_pseudo.md` R393, R418, R423). With `XLEN = 64` both extend by sign, so that a value from
0x7ffff800 to 0x7fffffff comes out as itself minus 2^32 (R393 (c)). -/
def Obligations.ImmediatePairs : Prop :=
  ∀ (s : State) (rd : Reg) (v : BitVec 32), rd ≠ 0#5 →
    let value : Int :=
      if 0x7ffff800 ≤ v.toNat ∧ v.toNat ≤ 0x7fffffff then v.toNat - 2 ^ 32 else v.toInt
    (∃ t u, exec (.lui rd (hi20 v)) s = .next t ∧ exec (.addi rd rd (lo12 v)) t = .next u ∧
      low32 (u.readX rd) = v ∧ HoldsInt s.xlen (u.readX rd) value) ∧
    (∃ t u, exec (.auipc rd (hi20 v)) s = .next t ∧ exec (.addi rd rd (lo12 v)) t = .next u ∧
      low32 (u.readX rd) = low32 s.pc + v ∧ HoldsInt s.xlen (u.readX rd) (s.pc.toNat + value))

/-! ## Control and status registers -/

/-- The six CSR instructions when their checks pass (`spec/46_priv_csr.md` R446 to R452): the register
takes the new value through its write rule, `rd` the old value. -/
def Obligations.CsrInstructions : Prop :=
  ∀ (s : State) (rd : Reg) (n : BitVec 12) (rs1 uimm : BitVec 5), s.cfg.isa.s = true →
    (s.csrAllowed n true = true →
      RunsCsr s (.crrw rd n rs1) rd n (s.writeCsr n (s.readX rs1)) ∧
      RunsCsr s (.crrwi rd n uimm) rd n (s.writeCsr n (uimm.setWidth 64))) ∧
    (s.csrAllowed n (rs1 != 0#5) = true →
      RunsCsr s (.crrs rd n rs1) rd n
        (if rs1 = 0#5 then s else s.writeCsr n (s.readCsr n ||| s.readX rs1)) ∧
      RunsCsr s (.crrc rd n rs1) rd n
        (if rs1 = 0#5 then s else s.writeCsr n (s.readCsr n &&& ~~~s.readX rs1))) ∧
    (s.csrAllowed n (uimm != 0#5) = true →
      RunsCsr s (.crrsi rd n uimm) rd n
        (if uimm = 0#5 then s else s.writeCsr n (s.readCsr n ||| uimm.setWidth 64)) ∧
      RunsCsr s (.crrci rd n uimm) rd n
        (if uimm = 0#5 then s else s.writeCsr n (s.readCsr n &&& ~~~uimm.setWidth 64)))

/-- When a CSR instruction is refused, and that it then raises (`spec/46_priv_csr.md` R452 (1) to
(3)). -/
def Obligations.CsrChecks : Prop :=
  ∀ (s : State) (rd : Reg) (n : BitVec 12) (rs1 uimm : BitVec 5) (writes : Bool),
    (s.csrAllowed n writes = false ↔
      s.csrExists n = false ∨ s.priv.code.toNat < modeAsked n ∨ (writes = true ∧ 0xc00 ≤ n.toNat)) ∧
    (s.csrAllowed n true = false →
      Raises s (.crrw rd n rs1) .illegalInstruction (encode (.crrw rd n rs1)).bits ∧
      Raises s (.crrwi rd n uimm) .illegalInstruction (encode (.crrwi rd n uimm)).bits) ∧
    (s.csrAllowed n (rs1 != 0#5) = false →
      Raises s (.crrs rd n rs1) .illegalInstruction (encode (.crrs rd n rs1)).bits ∧
      Raises s (.crrc rd n rs1) .illegalInstruction (encode (.crrc rd n rs1)).bits) ∧
    (s.csrAllowed n (uimm != 0#5) = false →
      Raises s (.crrsi rd n uimm) .illegalInstruction (encode (.crrsi rd n uimm)).bits ∧
      Raises s (.crrci rd n uimm) .illegalInstruction (encode (.crrci rd n uimm)).bits)

/-- Which registers the reference `CSR_FILE` has (`spec/10_state.md` R42 to R45): the three exception
program counters, with `F` the floating-point ones, with the trap layer its own. -/
def Obligations.ReferenceCsrFile : Prop :=
  ∀ (s : State) (n : BitVec 12),
    s.cfg.csrFile = Csr.reference s.cfg.isa s.cfg.trapLayer → s.cfg.extraCsrs = [] →
    (s.csrExists n = true ↔
      n ∈ [0x041#12, 0x141#12, 0x341#12] ∨
      (s.cfg.isa.hasF = true ∧ n ∈ [0x001#12, 0x002#12, 0x003#12]) ∨
      (s.cfg.trapLayer = .mmode ∧ n ∈ [0x300#12, 0x305#12, 0x340#12, 0x342#12, 0x343#12]))

/-- What a write to a register leaves in it, by its write rule (`spec/10_state.md` R43, R44,
`spec/60_exceptions.md` R479); no other register, and nothing else of the machine, changes: the next state
is the old one with the fields of that register replaced. The same of
a register that the spec does not describe, bit by bit, from the fields of its description
(`spec/46_priv_csr.md` R452 (4), (6); log 18). -/
def Obligations.CsrFields : Prop :=
  (∀ (s : State) (c : Csr) (v : Word), s.hasCsr c = true →
    let t := s.writeCsr (csrNumber c) v
    (t.readCsr (csrNumber c)).toNat = s.csrStored c v.toNat ∧
    (∀ d, s.hasCsr d = true → csrShares c d = false →
      t.readCsr (csrNumber d) = s.readCsr (csrNumber d)) ∧
    (c = .fcsr → t.frm.toNat = v.toNat / 32 % 8 ∧ t.fflags.toNat = v.toNat % 32) ∧
    OnlyCsr c s t) ∧
  (∀ (s : State) (n m : BitVec 12) (d : CsrDesc) (v : Word) (k : Nat),
    s.namedCsr n = none → s.extraDesc n = some d → FieldsApart d → k < s.xlen.bits →
    let t := s.writeCsr n v
    CsrBitIs d (s.extraVal n) (s.xlen.narrow v) k ((t.readCsr n).getLsbD k) ∧
    t = { s with extra := t.extra } ∧
    (m ≠ n → t.readCsr m = s.readCsr m ∧ t.extraVal m = s.extraVal m))

/-! ## Floating point -/

/-- Reading and writing floating-point registers (`spec/42_rvfd.md` R232, R233). -/
def Obligations.FpRegisterFile : Prop :=
  ∀ (s : State) (r q : Reg) (v : BitVec 32) (d : Word) (fl : FlagSet),
    (s.cfg.isa.flen64 = false → s.rdS r = low32 (s.readF r)) ∧
    (s.cfg.isa.flen64 = true → (s.readF r).toNat / 2 ^ 32 = 2 ^ 32 - 1 →
      s.rdS r = low32 (s.readF r)) ∧
    (s.cfg.isa.flen64 = true → (s.readF r).toNat / 2 ^ 32 ≠ 2 ^ 32 - 1 →
      s.rdS r = 0x7fc00000#32) ∧
    s.rawS r = low32 (s.readF r) ∧ s.rdD r = s.readF r ∧
    (s.cfg.isa.flen64 = false → (s.wrS r v).readF r = v.setWidth 64) ∧
    (s.cfg.isa.flen64 = true → (s.wrS r v).readF r = 0xffffffff#32 ++ v) ∧
    (s.cfg.isa.flen64 = true → (s.wrD r d).readF r = d) ∧
    (q ≠ r → (s.wrS r v).readF q = s.readF q ∧ (s.wrD r d).readF q = s.readF q) ∧
    (s.raiseFlags fl).fflags = s.fflags ||| fl ∧
    (flagNV = 0x10#5 ∧ flagDZ = 0x08#5 ∧ flagOF = 0x04#5 ∧ flagUF = 0x02#5 ∧ flagNX = 0x01#5)

/-- The floating-point loads, stores and moves (`spec/42_rvfd.md` R258, R259, R264 to R267). -/
def Obligations.FpLoadsStoresMoves : Prop :=
  ∀ (s : State) (fd fs2 fs1 rd rs1 : Reg) (imm : BitVec 12),
    let ea := s.ea rs1 (immI imm)
    (s.cfg.isa.hasF = true →
      LoadsF s (.flw fd rs1 imm) fd ea 4 4 (fun v => s.boxed (BitVec.ofNat 32 v)) ∧
      Stores s (.fsw fs2 rs1 imm) ea 4 (low32 (s.readF fs2)).toNat 4 ∧
      RunsX s (.fmvXW rd fs1) rd 4 (low32 (s.readF fs1)).toInt ∧
      RunsF s (.fmvWX fd rs1) fd 4 (s.boxed (low32 (s.readX rs1))) 0#5) ∧
    (s.cfg.isa.hasD = true →
      LoadsF s (.fld fd rs1 imm) fd ea 8 4 (fun v => BitVec.ofNat 64 v) ∧
      Stores s (.fsd fs2 rs1 imm) ea 8 (s.readF fs2).toNat 4)

/-- Addition, subtraction, multiplication, division, square root and the fused forms call the function
of `FP_NUMERICS` that their formula names, with the resolved rounding mode (`spec/42_rvfd.md` R240 to
R248): `fmsub` negates the addend, `fnmsub` and `fnmadd` as `FNM_CONVENTION` says. What the functions of
the reference instance give is R234: the canonical NaN and NV for the invalid operations, DZ, signed
infinities and zeros, and otherwise the exact result rounded once. -/
def Obligations.FpArithmetic : Prop :=
  (∀ (s : State) (fd fs1 fs2 fs3 : Reg) (rm : RmField) (mode : RoundMode),
    s.resolveRm rm = some mode →
    let N := s.numerics
    let S := Prec.single
    let D := Prec.double
    let n := s.cfg.fnm
    (s.cfg.isa.hasF = true →
      let a := s.rdP S fs1
      let b := s.rdP S fs2
      let c := s.rdP S fs3
      RunsFp s (.fmaddS fd fs1 fs2 fs3 rm) S fd (N.fma S mode a b c) ∧
      RunsFp s (.fmsubS fd fs1 fs2 fs3 rm) S fd (N.fma S mode a b (N.neg S c)) ∧
      RunsFp s (.fnmsubS fd fs1 fs2 fs3 rm) S fd
        (N.fma S mode (N.neg S a) b (if n = .source then N.neg S c else c)) ∧
      RunsFp s (.fnmaddS fd fs1 fs2 fs3 rm) S fd
        (N.fma S mode (N.neg S a) b (if n = .source then c else N.neg S c)) ∧
      RunsFp s (.faddS fd fs1 fs2 rm) S fd (N.add S mode a b) ∧
      RunsFp s (.fsubS fd fs1 fs2 rm) S fd (N.sub S mode a b) ∧
      RunsFp s (.fmulS fd fs1 fs2 rm) S fd (N.mul S mode a b) ∧
      RunsFp s (.fdivS fd fs1 fs2 rm) S fd (N.div S mode a b) ∧
      RunsFp s (.fsqrtS fd fs1 rm) S fd (N.sqrt S mode a)) ∧
    (s.cfg.isa.hasD = true →
      let a := s.rdP D fs1
      let b := s.rdP D fs2
      let c := s.rdP D fs3
      RunsFp s (.fmaddD fd fs1 fs2 fs3 rm) D fd (N.fma D mode a b c) ∧
      RunsFp s (.fmsubD fd fs1 fs2 fs3 rm) D fd (N.fma D mode a b (N.neg D c)) ∧
      RunsFp s (.fnmsubD fd fs1 fs2 fs3 rm) D fd
        (N.fma D mode (N.neg D a) b (if n = .source then N.neg D c else c)) ∧
      RunsFp s (.fnmaddD fd fs1 fs2 fs3 rm) D fd
        (N.fma D mode (N.neg D a) b (if n = .source then c else N.neg D c)) ∧
      RunsFp s (.faddD fd fs1 fs2 rm) D fd (N.add D mode a b) ∧
      RunsFp s (.fsubD fd fs1 fs2 rm) D fd (N.sub D mode a b) ∧
      RunsFp s (.fmulD fd fs1 fs2 rm) D fd (N.mul D mode a b) ∧
      RunsFp s (.fdivD fd fs1 fs2 rm) D fd (N.div D mode a b) ∧
      RunsFp s (.fsqrtD fd fs1 rm) D fd (N.sqrt D mode a)) ∧
    (s.cfg.numerics = .ieee → N = ieeeNumerics)) ∧
  (∀ (p : Prec) (mode : RoundMode) (a b c : Nat),
    let N := ieeeNumerics
    let x := p.unpack a
    let y := p.unpack b
    SumIs p mode x y (N.add p mode a b) ∧ N.sub p mode a b = N.add p mode a (N.neg p b) ∧
    ProductIs p mode x y (N.mul p mode a b) ∧ QuotientIs p mode x y (N.div p mode a b) ∧
    RootIs p mode x (N.sqrt p mode a) ∧ FusedIs p mode x y (p.unpack c) (N.fma p mode a b c) ∧
    (let sign := 2 ^ (p.ebits + p.fbits)
     a < 2 * sign → N.neg p a = if a < sign then a + sign else a - sign))

/-- Sign injection moves the sign of the second operand, its complement, or the exclusive or of both
signs over the magnitude of the first, with no flag; minimum and maximum call their functions
(`spec/42_rvfd.md` R249 to R253), whose reference instance is: NaNs give way, NV exactly for a signaling
one, `-0` below `+0`, otherwise the smaller or the larger operand unchanged. -/
def Obligations.FpSignMinMax : Prop :=
  (∀ (s : State) (fd fs1 fs2 : Reg),
    let N := s.numerics
    let S := Prec.single
    let D := Prec.double
    (s.cfg.isa.hasF = true →
      let a := s.rdP S fs1
      let b := s.rdP S fs2
      RunsFp s (.fsgnjS fd fs1 fs2) S fd (b / 2 ^ 31 * 2 ^ 31 + a % 2 ^ 31, 0#5) ∧
      RunsFp s (.fsgnjnS fd fs1 fs2) S fd ((1 - b / 2 ^ 31) * 2 ^ 31 + a % 2 ^ 31, 0#5) ∧
      RunsFp s (.fsgnjxS fd fs1 fs2) S fd ((a / 2 ^ 31 + b / 2 ^ 31) % 2 * 2 ^ 31 + a % 2 ^ 31, 0#5) ∧
      RunsFp s (.fminS fd fs1 fs2) S fd (N.min S a b) ∧
      RunsFp s (.fmaxS fd fs1 fs2) S fd (N.max S a b)) ∧
    (s.cfg.isa.hasD = true →
      let a := s.rdP D fs1
      let b := s.rdP D fs2
      RunsFp s (.fsgnjD fd fs1 fs2) D fd (b / 2 ^ 63 * 2 ^ 63 + a % 2 ^ 63, 0#5) ∧
      RunsFp s (.fsgnjnD fd fs1 fs2) D fd ((1 - b / 2 ^ 63) * 2 ^ 63 + a % 2 ^ 63, 0#5) ∧
      RunsFp s (.fsgnjxD fd fs1 fs2) D fd ((a / 2 ^ 63 + b / 2 ^ 63) % 2 * 2 ^ 63 + a % 2 ^ 63, 0#5) ∧
      RunsFp s (.fminD fd fs1 fs2) D fd (N.min D a b) ∧
      RunsFp s (.fmaxD fd fs1 fs2) D fd (N.max D a b)) ∧
    (s.cfg.numerics = .ieee → N = ieeeNumerics)) ∧
  (∀ (p : Prec) (a b : Nat), MinMaxIs p a b (ieeeNumerics.min p a b) (ieeeNumerics.max p a b))

/-- The comparisons put 1 or 0 in `x[rd]` and raise their flags; `fclass` puts the mask of its function
there and raises none (`spec/42_rvfd.md` R254 to R257). The functions of the reference instance compare
the values, a NaN comparing false, with NV for a signaling NaN in `feq` and for any NaN in `flt` and
`fle`; the mask has the bit of the class. -/
def Obligations.FpCompareClassify : Prop :=
  (∀ (s : State) (rd fs1 fs2 : Reg),
    let N := s.numerics
    let S := Prec.single
    let D := Prec.double
    (s.cfg.isa.hasF = true →
      let a := s.rdP S fs1
      let b := s.rdP S fs2
      RunsXFlags s (.feqS rd fs1 fs2) rd (if (N.eq S a b).1 then 1 else 0) (N.eq S a b).2 ∧
      RunsXFlags s (.fltS rd fs1 fs2) rd (if (N.lt S a b).1 then 1 else 0) (N.lt S a b).2 ∧
      RunsXFlags s (.fleS rd fs1 fs2) rd (if (N.le S a b).1 then 1 else 0) (N.le S a b).2 ∧
      RunsXFlags s (.fclassS rd fs1) rd (N.classify S a).toNat 0#5) ∧
    (s.cfg.isa.hasD = true →
      let a := s.rdP D fs1
      let b := s.rdP D fs2
      RunsXFlags s (.feqD rd fs1 fs2) rd (if (N.eq D a b).1 then 1 else 0) (N.eq D a b).2 ∧
      RunsXFlags s (.fltD rd fs1 fs2) rd (if (N.lt D a b).1 then 1 else 0) (N.lt D a b).2 ∧
      RunsXFlags s (.fleD rd fs1 fs2) rd (if (N.le D a b).1 then 1 else 0) (N.le D a b).2 ∧
      RunsXFlags s (.fclassD rd fs1) rd (N.classify D a).toNat 0#5) ∧
    (s.cfg.numerics = .ieee → N = ieeeNumerics)) ∧
  (∀ (p : Prec) (a b : Nat),
    let N := ieeeNumerics
    ComparisonsAre p a b (N.eq p a b) (N.lt p a b) (N.le p a b) ∧ ClassIs p a (N.classify p a).toNat)

/-- The conversions call their functions with the resolved rounding mode; a 32-bit integer result is
sign-extended, also the unsigned one (`spec/42_rvfd.md` R230 (i), R260 to R263, R268 to R273). The
functions of the reference instance round once; to an integer they saturate, with NV and without NX, on
a NaN, an infinity and a value out of range; from an integer to a double and from a single to a double
they are exact. -/
def Obligations.FpConversions : Prop :=
  (∀ (s : State) (rd fd fs1 rs1 : Reg) (rm : RmField) (mode : RoundMode),
    s.resolveRm rm = some mode →
    let N := s.numerics
    let S := Prec.single
    let D := Prec.double
    let n := low32 (s.readX rs1)
    (s.cfg.isa.hasF = true →
      let w := N.toInt32 S mode (s.rdP S fs1)
      let u := N.toUInt32 S mode (s.rdP S fs1)
      RunsXFlags s (.fcvtWS rd fs1 rm) rd w.1.toInt w.2 ∧
      RunsXFlags s (.fcvtWuS rd fs1 rm) rd u.1.toInt u.2 ∧
      RunsFp s (.fcvtSW fd rs1 rm) S fd (N.fromInt32 S mode n) ∧
      RunsFp s (.fcvtSWu fd rs1 rm) S fd (N.fromUInt32 S mode n)) ∧
    (s.cfg.isa.hasD = true →
      let w := N.toInt32 D mode (s.rdP D fs1)
      let u := N.toUInt32 D mode (s.rdP D fs1)
      RunsXFlags s (.fcvtWD rd fs1 rm) rd w.1.toInt w.2 ∧
      RunsXFlags s (.fcvtWuD rd fs1 rm) rd u.1.toInt u.2 ∧
      RunsFp s (.fcvtDW fd rs1 rm) D fd (N.fromInt32 D mode n) ∧
      RunsFp s (.fcvtDWu fd rs1 rm) D fd (N.fromUInt32 D mode n) ∧
      RunsFp s (.fcvtSD fd fs1 rm) S fd (N.dToS mode (s.rdP D fs1)) ∧
      RunsFp s (.fcvtDS fd fs1 rm) D fd (N.sToD (s.rdP S fs1))) ∧
    (s.cfg.numerics = .ieee → N = ieeeNumerics)) ∧
  (∀ (p : Prec) (mode : RoundMode) (a : Nat) (n : BitVec 32),
    let N := ieeeNumerics
    let w := N.toInt32 p mode a
    let u := N.toUInt32 p mode a
    ToIntIs mode (-2 ^ 31) (2 ^ 31 - 1) (p.unpack a) (w.1.toInt, w.2) ∧
    ToIntIs mode 0 (2 ^ 32 - 1) (p.unpack a) (u.1.toNat, u.2) ∧
    FromIntIs p mode n.toInt (N.fromInt32 p mode n) ∧
    FromIntIs p mode n.toNat (N.fromUInt32 p mode n) ∧
    ((N.fromInt32 .double mode n).2 = 0#5 ∧ (N.fromUInt32 .double mode n).2 = 0#5) ∧
    ConvertIs .single mode (Prec.double.unpack a) (N.dToS mode a) ∧
    ConvertIs .double mode (Prec.single.unpack a) (N.sToD a) ∧
    ((N.sToD a).2 = if (Prec.single.unpack a).isSignaling then flagNV else 0#5))

/-- The rounding mode of an instruction (`spec/42_rvfd.md` R231): the field, or `frm` when it is 7; with
5, 6 or 7 in `frm` the instruction raises, whatever its operands, and so does a word with 5 or 6 in the
field. -/
def Obligations.RoundingModeOfInstruction : Prop :=
  (∀ (s : State) (i : Instr) (rm : RmField), i.wf s.cfg.isa = true → rmOf i = some rm →
    (∃ w : BitVec 32, encode i = .full w ∧ w.extractLsb' 12 3 = rm.code) ∧
    (s.resolveRm rm = none → Raises s i .illegalInstruction (encode i).bits)) ∧
  (∀ (s : State) (rm : RmField),
    let m := rm.code.toNat
    let mode := if m = 7 then s.frm.toNat else m
    (mode = 0 → s.resolveRm rm = some .rne) ∧ (mode = 1 → s.resolveRm rm = some .rtz) ∧
    (mode = 2 → s.resolveRm rm = some .rdn) ∧ (mode = 3 → s.resolveRm rm = some .rup) ∧
    (mode = 4 → s.resolveRm rm = some .rmm) ∧ (5 ≤ mode → s.resolveRm rm = none)) ∧
  (∀ (s : State) (w : BitVec 32), s.Running → s.fetch = .got (.full w) →
    (w.extractLsb' 0 7 = 0b1000011#7 ∨ w.extractLsb' 0 7 = 0b1000111#7 ∨
      w.extractLsb' 0 7 = 0b1001011#7 ∨ w.extractLsb' 0 7 = 0b1001111#7 ∨
      w.extractLsb' 0 7 = 0b1010011#7) →
    (w.extractLsb' 12 3 = 5#3 ∨ w.extractLsb' 12 3 = 6#3) →
    step s = .next (s.raise .illegalInstruction (w.setWidth 64)))

/-- Rounding at a place is what the mode says (`spec/42_rvfd.md` R231, R234). At a place not above the
exponent the value is kept, exactly. At a place `d` above it, the result is the floor or the ceiling of the
quotient, the nearer one when rounding to nearest, a tie to even (`RNE`) or to the larger magnitude (`RMM`);
it is inexact when there is a remainder. Rounding to a format does that at the last place of the format; a
magnitude beyond the largest finite one overflows, as the mode and the sign dictate, with OF and NX; else NX
says that the result is inexact, and UF, never without NX, that it is also tiny. Tininess is detected after
rounding: in the binade below the smallest normal number, by the value rounded to `fbits` places below its
leading bit, as if the exponent were unbounded, being below `2^emin`. -/
def Obligations.RoundingAtAPlace : Prop :=
  (∀ (mode : RoundMode) (neg : Bool) (mant : Nat) (exp q : Int), q ≤ exp →
    roundAt mode neg mant exp q = (mant * 2 ^ (exp - q).toNat, false)) ∧
  (∀ (mode : RoundMode) (neg : Bool) (mant d : Nat) (exp : Int), 0 < d →
    let k := (roundAt mode neg mant exp (exp + d)).1
    let m := mant / 2 ^ d
    ((roundAt mode neg mant exp (exp + d)).2 = true ↔ mant % 2 ^ d ≠ 0) ∧
    (mant % 2 ^ d = 0 → k = m) ∧
    (mant % 2 ^ d ≠ 0 →
      (mode = .rtz → k = m) ∧
      (mode = .rdn → k = if neg then m + 1 else m) ∧
      (mode = .rup → k = if neg then m else m + 1) ∧
      (mode = .rne → 2 * mant ≤ 2 * k * 2 ^ d + 2 ^ d ∧ 2 * k * 2 ^ d ≤ 2 * mant + 2 ^ d ∧
        (2 * (mant % 2 ^ d) = 2 ^ d → k % 2 = 0)) ∧
      (mode = .rmm → 2 * mant ≤ 2 * k * 2 ^ d + 2 ^ d ∧ 2 * k * 2 ^ d ≤ 2 * mant + 2 ^ d ∧
        (2 * (mant % 2 ^ d) = 2 ^ d → k = m + 1)))) ∧
  (∀ (p : Prec) (mode : RoundMode) (neg : Bool) (mant : Nat) (exp : Int), mant ≠ 0 →
    let res := p.round mode neg mant exp
    let lead := exp + mant.log2
    let q := max (lead - p.fbits) p.qmin
    let r := roundAt mode neg mant exp q
    let mag := (q - p.qmin).toNat * 2 ^ p.fbits + r.1
    let inf := (2 ^ p.ebits - 1) * 2 ^ p.fbits
    let away := mode = .rne ∨ mode = .rmm ∨ (mode = .rdn ∧ neg = true) ∨ (mode = .rup ∧ neg = false)
    let sign := (p.zeroOf neg).1
    (inf ≤ mag → away → res = (sign + inf, flagOF ||| flagNX)) ∧
    (inf ≤ mag → ¬away → res = (sign + (inf - 1), flagOF ||| flagNX)) ∧
    (mag < inf → res.1 = sign + mag ∧
      (r.2 = false → res.2 = 0#5) ∧
      (r.2 = true → p.emin ≤ lead → res.2 = flagNX) ∧
      (r.2 = true → lead + 1 < p.emin → res.2 = (flagUF ||| flagNX)) ∧
      (r.2 = true → lead + 1 = p.emin →
        let unbounded := (roundAt mode neg mant exp (lead - p.fbits)).1
        (unbounded < 2 ^ (p.fbits + 1) → res.2 = (flagUF ||| flagNX)) ∧
        (2 ^ (p.fbits + 1) ≤ unbounded → res.2 = flagNX))))

/-- A finite non-zero value of the format rounds to its own pattern, exactly, in every mode
(`spec/42_rvfd.md` R234). -/
def Obligations.RepresentableRoundsToItself : Prop :=
  ∀ (p : Prec) (mode : RoundMode) (v : Nat) (neg : Bool) (m : Nat) (e : Int),
    v < 2 ^ (p.ebits + p.fbits + 1) → p.unpack v = .finite neg m e → m ≠ 0 →
    p.round mode neg m e = (v, 0#5)

/-! ## 16-bit instructions -/

/-- The arithmetic of Table B.6 (`spec/44_rvc.md` R332, R339, R340, R342 to R351, R355, R360, R363): the
32-bit equivalent with `ilen = 2`. -/
def Obligations.CompressedArithmetic : Prop :=
  ∀ (s : State) (rd rs2 : Reg) (cd cs : CReg) (imm : BitVec 6) (u : BitVec 8) (shamt : BitVec 5),
    s.cfg.isa.hasC = true →
    (u ≠ 0#8 → RunsX s (.cAddi4spn cd u) cd.reg 2 (s.sx 2#5 + 4 * u.toNat)) ∧
    (∃ t, exec .cNop s = .next t ∧ OnlyPc s t ∧ PcAdvanced s t 2) ∧
    ((rd ≠ 0#5 ∨ imm ≠ 0#6) → RunsX s (.cAddi rd imm) rd 2 (s.sx rd + imm.toInt)) ∧
    RunsX s (.cLi rd imm) rd 2 imm.toInt ∧
    (rd ≠ 2#5 → imm ≠ 0#6 → RunsX s (.cLui rd imm) rd 2 (imm.toInt * 4096)) ∧
    (imm ≠ 0#6 → RunsX s (.cAddi16sp imm) 2#5 2 (s.sx 2#5 + 16 * imm.toInt)) ∧
    RunsX s (.cSrli cd shamt) cd.reg 2 (s.ux cd.reg / 2 ^ shamt.toNat : Nat) ∧
    RunsX s (.cSrai cd shamt) cd.reg 2 (s.sx cd.reg / 2 ^ shamt.toNat) ∧
    RunsX s (.cAndi cd imm) cd.reg 2 (s.ux cd.reg &&& s.immU imm : Nat) ∧
    RunsX s (.cSub cd cs) cd.reg 2 (s.sx cd.reg - s.sx cs.reg) ∧
    RunsX s (.cXor cd cs) cd.reg 2 (s.ux cd.reg ^^^ s.ux cs.reg : Nat) ∧
    RunsX s (.cOr cd cs) cd.reg 2 (s.ux cd.reg ||| s.ux cs.reg : Nat) ∧
    RunsX s (.cAnd cd cs) cd.reg 2 (s.ux cd.reg &&& s.ux cs.reg : Nat) ∧
    RunsX s (.cSlli rd shamt) rd 2 (s.ux rd * 2 ^ shamt.toNat : Nat) ∧
    (rs2 ≠ 0#5 → RunsX s (.cMv rd rs2) rd 2 (s.ux rs2)) ∧
    (rs2 ≠ 0#5 → RunsX s (.cAdd rd rs2) rd 2 (s.sx rd + s.sx rs2)) ∧
    cd.reg.toNat = 8 + cd.toNat

/-- The loads and stores of Table B.6 (`spec/44_rvc.md` R333 to R338, R356 to R358, R364 to R366), with
offsets scaled and extended by zeros (`spec/30_encoding.md` R128). -/
def Obligations.CompressedMemory : Prop :=
  ∀ (s : State) (cd cs : CReg) (r : Reg) (i5 : BitVec 5) (i6 : BitVec 6), s.cfg.isa.hasC = true →
    let eaW := s.ea cs.reg (immCw i5)
    let eaD := s.ea cs.reg (immCd i5)
    let spW := s.ea 2#5 (immCwsp i6)
    let spD := s.ea 2#5 (immCdsp i6)
    LoadsX s (.cLw cd cs i5) cd.reg eaW 4 2 (fun v => signedOf 32 v) ∧
    (r ≠ 0#5 → LoadsX s (.cLwsp r i6) r spW 4 2 (fun v => signedOf 32 v)) ∧
    Stores s (.cSw cd cs i5) eaW 4 (s.ux cd.reg) 2 ∧
    Stores s (.cSwsp r i6) spW 4 (s.ux r) 2 ∧
    (s.cfg.isa.hasF = true →
      LoadsF s (.cFlw cd cs i5) cd.reg eaW 4 2 (fun v => s.boxed (BitVec.ofNat 32 v)) ∧
      LoadsF s (.cFlwsp r i6) r spW 4 2 (fun v => s.boxed (BitVec.ofNat 32 v)) ∧
      Stores s (.cFsw cd cs i5) eaW 4 (low32 (s.readF cd.reg)).toNat 2 ∧
      Stores s (.cFswsp r i6) spW 4 (low32 (s.readF r)).toNat 2) ∧
    (s.cfg.isa.hasD = true →
      LoadsF s (.cFld cd cs i5) cd.reg eaD 8 2 (fun v => BitVec.ofNat 64 v) ∧
      LoadsF s (.cFldsp r i6) r spD 8 2 (fun v => BitVec.ofNat 64 v) ∧
      Stores s (.cFsd cd cs i5) eaD 8 (s.readF cd.reg).toNat 2 ∧
      Stores s (.cFsdsp r i6) spD 8 (s.readF r).toNat 2) ∧
    eaW.toNat = (s.ux cs.reg + 4 * i5.toNat) % 2 ^ s.xlen.bits ∧
    eaD.toNat = (s.ux cs.reg + 8 * i5.toNat) % 2 ^ s.xlen.bits ∧
    spW.toNat = (s.ux 2#5 + 4 * i6.toNat) % 2 ^ s.xlen.bits ∧
    spD.toNat = (s.ux 2#5 + 8 * i6.toNat) % 2 ^ s.xlen.bits

/-- The jumps and branches of Table B.6 (`spec/44_rvc.md` R341, R352 to R354, R359, R362): the link is
`pc + 2`. -/
def Obligations.CompressedControl : Prop :=
  ∀ (s : State) (off : BitVec 11) (boff : BitVec 8) (cs : CReg) (rs1 : Reg),
    s.cfg.isa.hasC = true →
    JumpsLinking s (.cJal off) 1#5 ((s.pc.toNat + 2 * off.toInt) % 2 ^ s.xlen.bits) 2 ∧
    Jumps s (.cJ off) (2 * off.toInt) ∧
    Branches s (.cBeqz cs boff) (s.ux cs.reg = 0) (2 * boff.toInt) 2 ∧
    Branches s (.cBnez cs boff) (s.ux cs.reg ≠ 0) (2 * boff.toInt) 2 ∧
    (rs1 ≠ 0#5 → JumpsLinking s (.cJr rs1) 0#5 (s.ux rs1 / 2 * 2) 2) ∧
    (rs1 ≠ 0#5 → JumpsLinking s (.cJalr rs1) 1#5 (s.ux rs1 / 2 * 2) 2)

end Statements
end

