-- ==== Sys2Proof/Laws/Memory.lean ====
section
/-! SUPPORT. Every memory operation keeps the canonical form. -/

namespace Sys2Proof.Machine

/-- A bound that a list of cells may start above. -/
def aboveBound (lo : Option Nat) (a : Nat) : Prop := ∀ l, lo = some l → l < a

theorem cellsOk_cons (d : Byte) (lo : Option Nat) (c : Host.Cell) (cs : List Host.Cell) :
    cellsOk d lo (c :: cs) = true ↔
      aboveBound lo c.1 ∧ c.2 ≠ d ∧ cellsOk d (some c.1) cs = true := by
  cases lo <;> simp [cellsOk, aboveBound, and_assoc]

theorem cellsOk_weaken {d : Byte} {lo hi : Option Nat} {cs : List Host.Cell}
    (h : cellsOk d hi cs = true) (hle : ∀ a, aboveBound hi a → aboveBound lo a) :
    cellsOk d lo cs = true := by
  cases cs with
  | nil => rfl
  | cons c cs =>
    rw [cellsOk_cons] at h ⊢
    exact ⟨hle _ h.1, h.2⟩

theorem aboveBound_some {k a : Nat} : aboveBound (some k) a ↔ k < a := by
  simp [aboveBound]

theorem cellsOk_insertCell {d b : Byte} {lo : Option Nat} {a : Nat} {cs : List Host.Cell}
    (h : cellsOk d lo cs = true) (ha : aboveBound lo a) (hb : b ≠ d) :
    cellsOk d lo (insertCell a b cs) = true := by
  induction cs generalizing lo with
  | nil => exact (cellsOk_cons d lo (a, b) []).2 ⟨ha, hb, rfl⟩
  | cons c cs ih =>
    rw [cellsOk_cons] at h
    unfold insertCell
    split
    · rename_i hlt
      simp only [cellsOk_cons, aboveBound_some]
      exact ⟨ha, hb, hlt, h.2⟩
    · split
      · rename_i heq
        rw [cellsOk_cons]
        exact ⟨ha, hb, heq ▸ h.2.2⟩
      · rename_i hlt hne
        rw [cellsOk_cons]
        exact ⟨h.1, h.2.1, ih h.2.2 (aboveBound_some.2 (by omega))⟩

theorem cellsOk_eraseCell {d : Byte} {lo : Option Nat} (a : Nat) {cs : List Host.Cell}
    (h : cellsOk d lo cs = true) : cellsOk d lo (eraseCell a cs) = true := by
  induction cs generalizing lo with
  | nil => rfl
  | cons c cs ih =>
    rw [cellsOk_cons] at h
    unfold eraseCell
    split
    · exact cellsOk_weaken h.2.2 fun x hx l hl =>
        Nat.lt_trans (h.1 l hl) (aboveBound_some.1 hx)
    · rw [cellsOk_cons]
      exact ⟨h.1, h.2.1, ih h.2.2⟩

/-- Writing a byte keeps the canonical form. -/
theorem Memory.write_wf {m : Memory} (h : m.wf = true) (a : Nat) (b : Byte) :
    (m.write a b).wf = true := by
  unfold Memory.wf Memory.write at *
  by_cases hb : b = m.fill
  · simpa [hb] using cellsOk_eraseCell a h
  · simpa [hb] using cellsOk_insertCell h (by simp [aboveBound]) hb

/-- Storing a value keeps the canonical form. -/
theorem Memory.writeLE_wf {m : Memory} (h : m.wf = true) (as : List Nat) (v : Word) :
    (m.writeLE as v).wf = true := by
  induction as generalizing m v with
  | nil => exact h
  | cons a as ih => exact ih (m.write_wf h a _) _

/-- Placing a piece of launch image keeps the canonical form. -/
theorem Memory.place_wf {m : Memory} (h : m.wf = true) (size a : Nat) (bs : List Byte) :
    (m.place size a bs).wf = true := by
  induction bs generalizing m a with
  | nil => exact h
  | cons b bs ih => exact ih (m.write_wf h _ b) _

/-- The memory of a launch has the canonical form. -/
theorem Launch.memory_wf (l : Launch) (size : Nat) : (l.memory size).wf = true := by
  unfold Launch.memory
  have : ∀ (ps : List (Nat × List Byte)) (m : Memory), m.wf = true →
      (ps.foldl (fun m p => m.place size p.1 p.2) m).wf = true := by
    intro ps
    induction ps with
    | nil => exact fun m h => h
    | cons p ps ih => exact fun m h => ih _ (m.place_wf h _ _ _)
  exact this _ _ rfl

/-- Placing bytes from outside keeps the canonical form. -/
theorem State.placeBytes_wf {s : State} (h : s.mem.wf = true) (a : Word) (bs : List Byte) :
    (s.placeBytes a bs).mem.wf = true := by
  induction bs generalizing s a with
  | nil => exact h
  | cons b bs ih => exact ih (Memory.write_wf h _ b) _

/-- Writing the bytes of a service keeps the canonical form. -/
theorem State.hostPokeAll_wf {s : State} (h : s.mem.wf = true) (q : HostQuery) (i : Nat)
    (as : List Nat) : (s.hostPokeAll q i as).mem.wf = true := by
  induction as generalizing s i with
  | nil => exact h
  | cons a as ih => exact ih (Memory.write_wf h _ _) _

/-- The reset memory has the canonical form. -/
theorem State.reset_mem_wf : State.reset.mem.wf = true := rfl

/-- Writing does not change what an unlisted address reads as. -/
@[simp] theorem Memory.write_fill (m : Memory) (a : Nat) (b : Byte) :
    (m.write a b).fill = m.fill := rfl

/-! ## The set of stored addresses -/

theorem addrsOk_cons (lo : Option Nat) (a : Nat) (as : List Nat) :
    addrsOk lo (a :: as) = true ↔ aboveBound lo a ∧ addrsOk (some a) as = true := by
  cases lo <;> simp [addrsOk, aboveBound]

theorem addrsOk_addAddr {lo : Option Nat} {a : Nat} {l : List Nat} (h : addrsOk lo l = true)
    (ha : aboveBound lo a) : addrsOk lo (addAddr a l) = true := by
  induction l generalizing lo with
  | nil => exact (addrsOk_cons lo a []).2 ⟨ha, rfl⟩
  | cons b bs ih =>
    rw [addrsOk_cons] at h
    unfold addAddr
    split
    · rename_i hlt
      simp only [addrsOk_cons, aboveBound_some]
      exact ⟨ha, hlt, h.2⟩
    · split
      · rw [addrsOk_cons]; exact h
      · rw [addrsOk_cons]
        exact ⟨h.1, ih h.2 (aboveBound_some.2 (by omega))⟩

/-- Recording addresses keeps the set strictly rising. -/
theorem addrsOk_addAddrs {l : List Nat} (h : addrsOk none l = true) (as : List Nat) :
    addrsOk none (addAddrs l as) = true := by
  induction as generalizing l with
  | nil => exact h
  | cons a as ih => exact ih (addrsOk_addAddr h (by simp [aboveBound]))

/-- Which addresses are in the set after one is added. -/
theorem mem_addAddr {a x : Nat} {l : List Nat} : x ∈ addAddr a l ↔ x = a ∨ x ∈ l := by
  induction l with
  | nil => simp [addAddr]
  | cons b bs ih =>
    unfold addAddr
    split
    · simp
    · split
      · rename_i h; subst h; simp
      · simp only [List.mem_cons, ih, or_left_comm]

/-- Which addresses are in the set after several are added. -/
theorem mem_addAddrs {x : Nat} {l as : List Nat} : x ∈ addAddrs l as ↔ x ∈ l ∨ x ∈ as := by
  induction as generalizing l with
  | nil => simp [addAddrs]
  | cons a as ih =>
    simp only [addAddrs, ih, mem_addAddr, List.mem_cons, or_assoc, or_left_comm]

end Sys2Proof.Machine
end

