-- ==== Sys2Proof/Laws/State.lean ====
section
/-! SUPPORT. One lemma per field per update of the state: no later proof unfolds a record update. -/

namespace Sys2Proof.Machine

variable (s : State)

/-! `setPc` -/

@[simp] theorem State.setPc_cfg (v : Word) :
    (s.setPc v).cfg = s.cfg := rfl
@[simp] theorem State.setPc_x (v : Word) :
    (s.setPc v).x = s.x := rfl
@[simp] theorem State.setPc_f (v : Word) :
    (s.setPc v).f = s.f := rfl
@[simp] theorem State.setPc_pc (v : Word) :
    (s.setPc v).pc = s.xlen.narrow v := rfl
@[simp] theorem State.setPc_fflags (v : Word) :
    (s.setPc v).fflags = s.fflags := rfl
@[simp] theorem State.setPc_frm (v : Word) :
    (s.setPc v).frm = s.frm := rfl
@[simp] theorem State.setPc_uepc (v : Word) :
    (s.setPc v).uepc = s.uepc := rfl
@[simp] theorem State.setPc_sepc (v : Word) :
    (s.setPc v).sepc = s.sepc := rfl
@[simp] theorem State.setPc_mepc (v : Word) :
    (s.setPc v).mepc = s.mepc := rfl
@[simp] theorem State.setPc_mie (v : Word) :
    (s.setPc v).mie = s.mie := rfl
@[simp] theorem State.setPc_mpie (v : Word) :
    (s.setPc v).mpie = s.mpie := rfl
@[simp] theorem State.setPc_mpp (v : Word) :
    (s.setPc v).mpp = s.mpp := rfl
@[simp] theorem State.setPc_mtvec (v : Word) :
    (s.setPc v).mtvec = s.mtvec := rfl
@[simp] theorem State.setPc_mscratch (v : Word) :
    (s.setPc v).mscratch = s.mscratch := rfl
@[simp] theorem State.setPc_mcause (v : Word) :
    (s.setPc v).mcause = s.mcause := rfl
@[simp] theorem State.setPc_mtval (v : Word) :
    (s.setPc v).mtval = s.mtval := rfl
@[simp] theorem State.setPc_extra (v : Word) :
    (s.setPc v).extra = s.extra := rfl
@[simp] theorem State.setPc_priv (v : Word) :
    (s.setPc v).priv = s.priv := rfl
@[simp] theorem State.setPc_mem (v : Word) :
    (s.setPc v).mem = s.mem := rfl
@[simp] theorem State.setPc_modified (v : Word) :
    (s.setPc v).modified = s.modified := rfl
@[simp] theorem State.setPc_outcome (v : Word) :
    (s.setPc v).outcome = s.outcome := rfl
@[simp] theorem State.setPc_draws (v : Word) :
    (s.setPc v).draws = s.draws := rfl
@[simp] theorem State.setPc_xlen (v : Word) :
    (s.setPc v).xlen = s.xlen := rfl

/-! `advance` -/

@[simp] theorem State.advance_cfg (n : Nat) :
    (s.advance n).cfg = s.cfg := rfl
@[simp] theorem State.advance_x (n : Nat) :
    (s.advance n).x = s.x := rfl
@[simp] theorem State.advance_f (n : Nat) :
    (s.advance n).f = s.f := rfl
@[simp] theorem State.advance_pc (n : Nat) :
    (s.advance n).pc = s.xlen.narrow (s.nextPc n) := rfl
@[simp] theorem State.advance_fflags (n : Nat) :
    (s.advance n).fflags = s.fflags := rfl
@[simp] theorem State.advance_frm (n : Nat) :
    (s.advance n).frm = s.frm := rfl
@[simp] theorem State.advance_uepc (n : Nat) :
    (s.advance n).uepc = s.uepc := rfl
@[simp] theorem State.advance_sepc (n : Nat) :
    (s.advance n).sepc = s.sepc := rfl
@[simp] theorem State.advance_mepc (n : Nat) :
    (s.advance n).mepc = s.mepc := rfl
@[simp] theorem State.advance_mie (n : Nat) :
    (s.advance n).mie = s.mie := rfl
@[simp] theorem State.advance_mpie (n : Nat) :
    (s.advance n).mpie = s.mpie := rfl
@[simp] theorem State.advance_mpp (n : Nat) :
    (s.advance n).mpp = s.mpp := rfl
@[simp] theorem State.advance_mtvec (n : Nat) :
    (s.advance n).mtvec = s.mtvec := rfl
@[simp] theorem State.advance_mscratch (n : Nat) :
    (s.advance n).mscratch = s.mscratch := rfl
@[simp] theorem State.advance_mcause (n : Nat) :
    (s.advance n).mcause = s.mcause := rfl
@[simp] theorem State.advance_mtval (n : Nat) :
    (s.advance n).mtval = s.mtval := rfl
@[simp] theorem State.advance_extra (n : Nat) :
    (s.advance n).extra = s.extra := rfl
@[simp] theorem State.advance_priv (n : Nat) :
    (s.advance n).priv = s.priv := rfl
@[simp] theorem State.advance_mem (n : Nat) :
    (s.advance n).mem = s.mem := rfl
@[simp] theorem State.advance_modified (n : Nat) :
    (s.advance n).modified = s.modified := rfl
@[simp] theorem State.advance_outcome (n : Nat) :
    (s.advance n).outcome = s.outcome := rfl
@[simp] theorem State.advance_draws (n : Nat) :
    (s.advance n).draws = s.draws := rfl
@[simp] theorem State.advance_xlen (n : Nat) :
    (s.advance n).xlen = s.xlen := rfl

/-! `returnTo` -/

@[simp] theorem State.returnTo_cfg (v : Word) :
    (s.returnTo v).cfg = s.cfg := rfl
@[simp] theorem State.returnTo_x (v : Word) :
    (s.returnTo v).x = s.x := rfl
@[simp] theorem State.returnTo_f (v : Word) :
    (s.returnTo v).f = s.f := rfl
@[simp] theorem State.returnTo_pc (v : Word) :
    (s.returnTo v).pc = s.xlen.narrow (s.cfg.isa.alignPc v) := rfl
@[simp] theorem State.returnTo_fflags (v : Word) :
    (s.returnTo v).fflags = s.fflags := rfl
@[simp] theorem State.returnTo_frm (v : Word) :
    (s.returnTo v).frm = s.frm := rfl
@[simp] theorem State.returnTo_uepc (v : Word) :
    (s.returnTo v).uepc = s.uepc := rfl
@[simp] theorem State.returnTo_sepc (v : Word) :
    (s.returnTo v).sepc = s.sepc := rfl
@[simp] theorem State.returnTo_mepc (v : Word) :
    (s.returnTo v).mepc = s.mepc := rfl
@[simp] theorem State.returnTo_mie (v : Word) :
    (s.returnTo v).mie = s.mie := rfl
@[simp] theorem State.returnTo_mpie (v : Word) :
    (s.returnTo v).mpie = s.mpie := rfl
@[simp] theorem State.returnTo_mpp (v : Word) :
    (s.returnTo v).mpp = s.mpp := rfl
@[simp] theorem State.returnTo_mtvec (v : Word) :
    (s.returnTo v).mtvec = s.mtvec := rfl
@[simp] theorem State.returnTo_mscratch (v : Word) :
    (s.returnTo v).mscratch = s.mscratch := rfl
@[simp] theorem State.returnTo_mcause (v : Word) :
    (s.returnTo v).mcause = s.mcause := rfl
@[simp] theorem State.returnTo_mtval (v : Word) :
    (s.returnTo v).mtval = s.mtval := rfl
@[simp] theorem State.returnTo_extra (v : Word) :
    (s.returnTo v).extra = s.extra := rfl
@[simp] theorem State.returnTo_priv (v : Word) :
    (s.returnTo v).priv = s.priv := rfl
@[simp] theorem State.returnTo_mem (v : Word) :
    (s.returnTo v).mem = s.mem := rfl
@[simp] theorem State.returnTo_modified (v : Word) :
    (s.returnTo v).modified = s.modified := rfl
@[simp] theorem State.returnTo_outcome (v : Word) :
    (s.returnTo v).outcome = s.outcome := rfl
@[simp] theorem State.returnTo_draws (v : Word) :
    (s.returnTo v).draws = s.draws := rfl
@[simp] theorem State.returnTo_xlen (v : Word) :
    (s.returnTo v).xlen = s.xlen := rfl

/-! `writeF` -/

@[simp] theorem State.writeF_cfg (r : Reg) (v : Word) :
    (s.writeF r v).cfg = s.cfg := rfl
@[simp] theorem State.writeF_x (r : Reg) (v : Word) :
    (s.writeF r v).x = s.x := rfl
@[simp] theorem State.writeF_f (r : Reg) (v : Word) :
    (s.writeF r v).f = regSet s.f r (flenNarrow s.cfg.isa v) := rfl
@[simp] theorem State.writeF_pc (r : Reg) (v : Word) :
    (s.writeF r v).pc = s.pc := rfl
@[simp] theorem State.writeF_fflags (r : Reg) (v : Word) :
    (s.writeF r v).fflags = s.fflags := rfl
@[simp] theorem State.writeF_frm (r : Reg) (v : Word) :
    (s.writeF r v).frm = s.frm := rfl
@[simp] theorem State.writeF_uepc (r : Reg) (v : Word) :
    (s.writeF r v).uepc = s.uepc := rfl
@[simp] theorem State.writeF_sepc (r : Reg) (v : Word) :
    (s.writeF r v).sepc = s.sepc := rfl
@[simp] theorem State.writeF_mepc (r : Reg) (v : Word) :
    (s.writeF r v).mepc = s.mepc := rfl
@[simp] theorem State.writeF_mie (r : Reg) (v : Word) :
    (s.writeF r v).mie = s.mie := rfl
@[simp] theorem State.writeF_mpie (r : Reg) (v : Word) :
    (s.writeF r v).mpie = s.mpie := rfl
@[simp] theorem State.writeF_mpp (r : Reg) (v : Word) :
    (s.writeF r v).mpp = s.mpp := rfl
@[simp] theorem State.writeF_mtvec (r : Reg) (v : Word) :
    (s.writeF r v).mtvec = s.mtvec := rfl
@[simp] theorem State.writeF_mscratch (r : Reg) (v : Word) :
    (s.writeF r v).mscratch = s.mscratch := rfl
@[simp] theorem State.writeF_mcause (r : Reg) (v : Word) :
    (s.writeF r v).mcause = s.mcause := rfl
@[simp] theorem State.writeF_mtval (r : Reg) (v : Word) :
    (s.writeF r v).mtval = s.mtval := rfl
@[simp] theorem State.writeF_extra (r : Reg) (v : Word) :
    (s.writeF r v).extra = s.extra := rfl
@[simp] theorem State.writeF_priv (r : Reg) (v : Word) :
    (s.writeF r v).priv = s.priv := rfl
@[simp] theorem State.writeF_mem (r : Reg) (v : Word) :
    (s.writeF r v).mem = s.mem := rfl
@[simp] theorem State.writeF_modified (r : Reg) (v : Word) :
    (s.writeF r v).modified = s.modified := rfl
@[simp] theorem State.writeF_outcome (r : Reg) (v : Word) :
    (s.writeF r v).outcome = s.outcome := rfl
@[simp] theorem State.writeF_draws (r : Reg) (v : Word) :
    (s.writeF r v).draws = s.draws := rfl
@[simp] theorem State.writeF_xlen (r : Reg) (v : Word) :
    (s.writeF r v).xlen = s.xlen := rfl

/-! `wrS` -/

@[simp] theorem State.wrS_cfg (r : Reg) (v : BitVec 32) :
    (s.wrS r v).cfg = s.cfg := rfl
@[simp] theorem State.wrS_x (r : Reg) (v : BitVec 32) :
    (s.wrS r v).x = s.x := rfl
@[simp] theorem State.wrS_f (r : Reg) (v : BitVec 32) :
    (s.wrS r v).f = regSet s.f r (flenNarrow s.cfg.isa (BitVec.allOnes 32 ++ v)) := rfl
@[simp] theorem State.wrS_pc (r : Reg) (v : BitVec 32) :
    (s.wrS r v).pc = s.pc := rfl
@[simp] theorem State.wrS_fflags (r : Reg) (v : BitVec 32) :
    (s.wrS r v).fflags = s.fflags := rfl
@[simp] theorem State.wrS_frm (r : Reg) (v : BitVec 32) :
    (s.wrS r v).frm = s.frm := rfl
@[simp] theorem State.wrS_uepc (r : Reg) (v : BitVec 32) :
    (s.wrS r v).uepc = s.uepc := rfl
@[simp] theorem State.wrS_sepc (r : Reg) (v : BitVec 32) :
    (s.wrS r v).sepc = s.sepc := rfl
@[simp] theorem State.wrS_mepc (r : Reg) (v : BitVec 32) :
    (s.wrS r v).mepc = s.mepc := rfl
@[simp] theorem State.wrS_mie (r : Reg) (v : BitVec 32) :
    (s.wrS r v).mie = s.mie := rfl
@[simp] theorem State.wrS_mpie (r : Reg) (v : BitVec 32) :
    (s.wrS r v).mpie = s.mpie := rfl
@[simp] theorem State.wrS_mpp (r : Reg) (v : BitVec 32) :
    (s.wrS r v).mpp = s.mpp := rfl
@[simp] theorem State.wrS_mtvec (r : Reg) (v : BitVec 32) :
    (s.wrS r v).mtvec = s.mtvec := rfl
@[simp] theorem State.wrS_mscratch (r : Reg) (v : BitVec 32) :
    (s.wrS r v).mscratch = s.mscratch := rfl
@[simp] theorem State.wrS_mcause (r : Reg) (v : BitVec 32) :
    (s.wrS r v).mcause = s.mcause := rfl
@[simp] theorem State.wrS_mtval (r : Reg) (v : BitVec 32) :
    (s.wrS r v).mtval = s.mtval := rfl
@[simp] theorem State.wrS_extra (r : Reg) (v : BitVec 32) :
    (s.wrS r v).extra = s.extra := rfl
@[simp] theorem State.wrS_priv (r : Reg) (v : BitVec 32) :
    (s.wrS r v).priv = s.priv := rfl
@[simp] theorem State.wrS_mem (r : Reg) (v : BitVec 32) :
    (s.wrS r v).mem = s.mem := rfl
@[simp] theorem State.wrS_modified (r : Reg) (v : BitVec 32) :
    (s.wrS r v).modified = s.modified := rfl
@[simp] theorem State.wrS_outcome (r : Reg) (v : BitVec 32) :
    (s.wrS r v).outcome = s.outcome := rfl
@[simp] theorem State.wrS_draws (r : Reg) (v : BitVec 32) :
    (s.wrS r v).draws = s.draws := rfl
@[simp] theorem State.wrS_xlen (r : Reg) (v : BitVec 32) :
    (s.wrS r v).xlen = s.xlen := rfl

/-! `wrD` -/

@[simp] theorem State.wrD_cfg (r : Reg) (v : Word) :
    (s.wrD r v).cfg = s.cfg := rfl
@[simp] theorem State.wrD_x (r : Reg) (v : Word) :
    (s.wrD r v).x = s.x := rfl
@[simp] theorem State.wrD_f (r : Reg) (v : Word) :
    (s.wrD r v).f = regSet s.f r (flenNarrow s.cfg.isa v) := rfl
@[simp] theorem State.wrD_pc (r : Reg) (v : Word) :
    (s.wrD r v).pc = s.pc := rfl
@[simp] theorem State.wrD_fflags (r : Reg) (v : Word) :
    (s.wrD r v).fflags = s.fflags := rfl
@[simp] theorem State.wrD_frm (r : Reg) (v : Word) :
    (s.wrD r v).frm = s.frm := rfl
@[simp] theorem State.wrD_uepc (r : Reg) (v : Word) :
    (s.wrD r v).uepc = s.uepc := rfl
@[simp] theorem State.wrD_sepc (r : Reg) (v : Word) :
    (s.wrD r v).sepc = s.sepc := rfl
@[simp] theorem State.wrD_mepc (r : Reg) (v : Word) :
    (s.wrD r v).mepc = s.mepc := rfl
@[simp] theorem State.wrD_mie (r : Reg) (v : Word) :
    (s.wrD r v).mie = s.mie := rfl
@[simp] theorem State.wrD_mpie (r : Reg) (v : Word) :
    (s.wrD r v).mpie = s.mpie := rfl
@[simp] theorem State.wrD_mpp (r : Reg) (v : Word) :
    (s.wrD r v).mpp = s.mpp := rfl
@[simp] theorem State.wrD_mtvec (r : Reg) (v : Word) :
    (s.wrD r v).mtvec = s.mtvec := rfl
@[simp] theorem State.wrD_mscratch (r : Reg) (v : Word) :
    (s.wrD r v).mscratch = s.mscratch := rfl
@[simp] theorem State.wrD_mcause (r : Reg) (v : Word) :
    (s.wrD r v).mcause = s.mcause := rfl
@[simp] theorem State.wrD_mtval (r : Reg) (v : Word) :
    (s.wrD r v).mtval = s.mtval := rfl
@[simp] theorem State.wrD_extra (r : Reg) (v : Word) :
    (s.wrD r v).extra = s.extra := rfl
@[simp] theorem State.wrD_priv (r : Reg) (v : Word) :
    (s.wrD r v).priv = s.priv := rfl
@[simp] theorem State.wrD_mem (r : Reg) (v : Word) :
    (s.wrD r v).mem = s.mem := rfl
@[simp] theorem State.wrD_modified (r : Reg) (v : Word) :
    (s.wrD r v).modified = s.modified := rfl
@[simp] theorem State.wrD_outcome (r : Reg) (v : Word) :
    (s.wrD r v).outcome = s.outcome := rfl
@[simp] theorem State.wrD_draws (r : Reg) (v : Word) :
    (s.wrD r v).draws = s.draws := rfl
@[simp] theorem State.wrD_xlen (r : Reg) (v : Word) :
    (s.wrD r v).xlen = s.xlen := rfl

/-! `raiseFlags` -/

@[simp] theorem State.raiseFlags_cfg (v : FlagSet) :
    (s.raiseFlags v).cfg = s.cfg := rfl
@[simp] theorem State.raiseFlags_x (v : FlagSet) :
    (s.raiseFlags v).x = s.x := rfl
@[simp] theorem State.raiseFlags_f (v : FlagSet) :
    (s.raiseFlags v).f = s.f := rfl
@[simp] theorem State.raiseFlags_pc (v : FlagSet) :
    (s.raiseFlags v).pc = s.pc := rfl
@[simp] theorem State.raiseFlags_fflags (v : FlagSet) :
    (s.raiseFlags v).fflags = s.fflags ||| v := rfl
@[simp] theorem State.raiseFlags_frm (v : FlagSet) :
    (s.raiseFlags v).frm = s.frm := rfl
@[simp] theorem State.raiseFlags_uepc (v : FlagSet) :
    (s.raiseFlags v).uepc = s.uepc := rfl
@[simp] theorem State.raiseFlags_sepc (v : FlagSet) :
    (s.raiseFlags v).sepc = s.sepc := rfl
@[simp] theorem State.raiseFlags_mepc (v : FlagSet) :
    (s.raiseFlags v).mepc = s.mepc := rfl
@[simp] theorem State.raiseFlags_mie (v : FlagSet) :
    (s.raiseFlags v).mie = s.mie := rfl
@[simp] theorem State.raiseFlags_mpie (v : FlagSet) :
    (s.raiseFlags v).mpie = s.mpie := rfl
@[simp] theorem State.raiseFlags_mpp (v : FlagSet) :
    (s.raiseFlags v).mpp = s.mpp := rfl
@[simp] theorem State.raiseFlags_mtvec (v : FlagSet) :
    (s.raiseFlags v).mtvec = s.mtvec := rfl
@[simp] theorem State.raiseFlags_mscratch (v : FlagSet) :
    (s.raiseFlags v).mscratch = s.mscratch := rfl
@[simp] theorem State.raiseFlags_mcause (v : FlagSet) :
    (s.raiseFlags v).mcause = s.mcause := rfl
@[simp] theorem State.raiseFlags_mtval (v : FlagSet) :
    (s.raiseFlags v).mtval = s.mtval := rfl
@[simp] theorem State.raiseFlags_extra (v : FlagSet) :
    (s.raiseFlags v).extra = s.extra := rfl
@[simp] theorem State.raiseFlags_priv (v : FlagSet) :
    (s.raiseFlags v).priv = s.priv := rfl
@[simp] theorem State.raiseFlags_mem (v : FlagSet) :
    (s.raiseFlags v).mem = s.mem := rfl
@[simp] theorem State.raiseFlags_modified (v : FlagSet) :
    (s.raiseFlags v).modified = s.modified := rfl
@[simp] theorem State.raiseFlags_outcome (v : FlagSet) :
    (s.raiseFlags v).outcome = s.outcome := rfl
@[simp] theorem State.raiseFlags_draws (v : FlagSet) :
    (s.raiseFlags v).draws = s.draws := rfl
@[simp] theorem State.raiseFlags_xlen (v : FlagSet) :
    (s.raiseFlags v).xlen = s.xlen := rfl

/-! `stop` -/

@[simp] theorem State.stop_cfg (why : StopReason) (info : Word) :
    (s.stop why info).cfg = s.cfg := rfl
@[simp] theorem State.stop_x (why : StopReason) (info : Word) :
    (s.stop why info).x = s.x := rfl
@[simp] theorem State.stop_f (why : StopReason) (info : Word) :
    (s.stop why info).f = s.f := rfl
@[simp] theorem State.stop_pc (why : StopReason) (info : Word) :
    (s.stop why info).pc = s.pc := rfl
@[simp] theorem State.stop_fflags (why : StopReason) (info : Word) :
    (s.stop why info).fflags = s.fflags := rfl
@[simp] theorem State.stop_frm (why : StopReason) (info : Word) :
    (s.stop why info).frm = s.frm := rfl
@[simp] theorem State.stop_uepc (why : StopReason) (info : Word) :
    (s.stop why info).uepc = s.uepc := rfl
@[simp] theorem State.stop_sepc (why : StopReason) (info : Word) :
    (s.stop why info).sepc = s.sepc := rfl
@[simp] theorem State.stop_mepc (why : StopReason) (info : Word) :
    (s.stop why info).mepc = s.mepc := rfl
@[simp] theorem State.stop_mie (why : StopReason) (info : Word) :
    (s.stop why info).mie = s.mie := rfl
@[simp] theorem State.stop_mpie (why : StopReason) (info : Word) :
    (s.stop why info).mpie = s.mpie := rfl
@[simp] theorem State.stop_mpp (why : StopReason) (info : Word) :
    (s.stop why info).mpp = s.mpp := rfl
@[simp] theorem State.stop_mtvec (why : StopReason) (info : Word) :
    (s.stop why info).mtvec = s.mtvec := rfl
@[simp] theorem State.stop_mscratch (why : StopReason) (info : Word) :
    (s.stop why info).mscratch = s.mscratch := rfl
@[simp] theorem State.stop_mcause (why : StopReason) (info : Word) :
    (s.stop why info).mcause = s.mcause := rfl
@[simp] theorem State.stop_mtval (why : StopReason) (info : Word) :
    (s.stop why info).mtval = s.mtval := rfl
@[simp] theorem State.stop_extra (why : StopReason) (info : Word) :
    (s.stop why info).extra = s.extra := rfl
@[simp] theorem State.stop_priv (why : StopReason) (info : Word) :
    (s.stop why info).priv = s.priv := rfl
@[simp] theorem State.stop_mem (why : StopReason) (info : Word) :
    (s.stop why info).mem = s.mem := rfl
@[simp] theorem State.stop_modified (why : StopReason) (info : Word) :
    (s.stop why info).modified = s.modified := rfl
@[simp] theorem State.stop_outcome (why : StopReason) (info : Word) :
    (s.stop why info).outcome = .faulted why (s.xlen.narrow info) s.pc := rfl
@[simp] theorem State.stop_draws (why : StopReason) (info : Word) :
    (s.stop why info).draws = s.draws := rfl
@[simp] theorem State.stop_xlen (why : StopReason) (info : Word) :
    (s.stop why info).xlen = s.xlen := rfl

/-! `trapEntry` -/

@[simp] theorem State.trapEntry_cfg (e : Exc) (info : Word) :
    (s.trapEntry e info).cfg = s.cfg := rfl
@[simp] theorem State.trapEntry_x (e : Exc) (info : Word) :
    (s.trapEntry e info).x = s.x := rfl
@[simp] theorem State.trapEntry_f (e : Exc) (info : Word) :
    (s.trapEntry e info).f = s.f := rfl
@[simp] theorem State.trapEntry_pc (e : Exc) (info : Word) :
    (s.trapEntry e info).pc = s.mtvec &&& ~~~3#64 := rfl
@[simp] theorem State.trapEntry_fflags (e : Exc) (info : Word) :
    (s.trapEntry e info).fflags = s.fflags := rfl
@[simp] theorem State.trapEntry_frm (e : Exc) (info : Word) :
    (s.trapEntry e info).frm = s.frm := rfl
@[simp] theorem State.trapEntry_uepc (e : Exc) (info : Word) :
    (s.trapEntry e info).uepc = s.uepc := rfl
@[simp] theorem State.trapEntry_sepc (e : Exc) (info : Word) :
    (s.trapEntry e info).sepc = s.sepc := rfl
@[simp] theorem State.trapEntry_mepc (e : Exc) (info : Word) :
    (s.trapEntry e info).mepc = s.cfg.isa.alignPc s.pc := rfl
@[simp] theorem State.trapEntry_mie (e : Exc) (info : Word) :
    (s.trapEntry e info).mie = false := rfl
@[simp] theorem State.trapEntry_mpie (e : Exc) (info : Word) :
    (s.trapEntry e info).mpie = s.mie := rfl
@[simp] theorem State.trapEntry_mpp (e : Exc) (info : Word) :
    (s.trapEntry e info).mpp = s.priv := rfl
@[simp] theorem State.trapEntry_mtvec (e : Exc) (info : Word) :
    (s.trapEntry e info).mtvec = s.mtvec := rfl
@[simp] theorem State.trapEntry_mscratch (e : Exc) (info : Word) :
    (s.trapEntry e info).mscratch = s.mscratch := rfl
@[simp] theorem State.trapEntry_mcause (e : Exc) (info : Word) :
    (s.trapEntry e info).mcause = BitVec.ofNat 64 e.code := rfl
@[simp] theorem State.trapEntry_mtval (e : Exc) (info : Word) :
    (s.trapEntry e info).mtval = s.xlen.narrow info := rfl
@[simp] theorem State.trapEntry_extra (e : Exc) (info : Word) :
    (s.trapEntry e info).extra = s.extra := rfl
@[simp] theorem State.trapEntry_priv (e : Exc) (info : Word) :
    (s.trapEntry e info).priv = .m := rfl
@[simp] theorem State.trapEntry_mem (e : Exc) (info : Word) :
    (s.trapEntry e info).mem = s.mem := rfl
@[simp] theorem State.trapEntry_modified (e : Exc) (info : Word) :
    (s.trapEntry e info).modified = s.modified := rfl
@[simp] theorem State.trapEntry_outcome (e : Exc) (info : Word) :
    (s.trapEntry e info).outcome = s.outcome := rfl
@[simp] theorem State.trapEntry_draws (e : Exc) (info : Word) :
    (s.trapEntry e info).draws = s.draws := rfl
@[simp] theorem State.trapEntry_xlen (e : Exc) (info : Word) :
    (s.trapEntry e info).xlen = s.xlen := rfl

/-! `popStatus` -/

@[simp] theorem State.popStatus_cfg :
    (s.popStatus).cfg = s.cfg := rfl
@[simp] theorem State.popStatus_x :
    (s.popStatus).x = s.x := rfl
@[simp] theorem State.popStatus_f :
    (s.popStatus).f = s.f := rfl
@[simp] theorem State.popStatus_pc :
    (s.popStatus).pc = s.pc := rfl
@[simp] theorem State.popStatus_fflags :
    (s.popStatus).fflags = s.fflags := rfl
@[simp] theorem State.popStatus_frm :
    (s.popStatus).frm = s.frm := rfl
@[simp] theorem State.popStatus_uepc :
    (s.popStatus).uepc = s.uepc := rfl
@[simp] theorem State.popStatus_sepc :
    (s.popStatus).sepc = s.sepc := rfl
@[simp] theorem State.popStatus_mepc :
    (s.popStatus).mepc = s.mepc := rfl
@[simp] theorem State.popStatus_mie :
    (s.popStatus).mie = s.mpie := rfl
@[simp] theorem State.popStatus_mpie :
    (s.popStatus).mpie = true := rfl
@[simp] theorem State.popStatus_mpp :
    (s.popStatus).mpp = s.cfg.privModes.lowest := rfl
@[simp] theorem State.popStatus_mtvec :
    (s.popStatus).mtvec = s.mtvec := rfl
@[simp] theorem State.popStatus_mscratch :
    (s.popStatus).mscratch = s.mscratch := rfl
@[simp] theorem State.popStatus_mcause :
    (s.popStatus).mcause = s.mcause := rfl
@[simp] theorem State.popStatus_mtval :
    (s.popStatus).mtval = s.mtval := rfl
@[simp] theorem State.popStatus_extra :
    (s.popStatus).extra = s.extra := rfl
@[simp] theorem State.popStatus_priv :
    (s.popStatus).priv = s.mpp := rfl
@[simp] theorem State.popStatus_mem :
    (s.popStatus).mem = s.mem := rfl
@[simp] theorem State.popStatus_modified :
    (s.popStatus).modified = s.modified := rfl
@[simp] theorem State.popStatus_outcome :
    (s.popStatus).outcome = s.outcome := rfl
@[simp] theorem State.popStatus_draws :
    (s.popStatus).draws = s.draws := rfl
@[simp] theorem State.popStatus_xlen :
    (s.popStatus).xlen = s.xlen := rfl

/-! `storeBytes` -/

@[simp] theorem State.storeBytes_cfg (a : List Nat) (v : Word) :
    (s.storeBytes a v).cfg = s.cfg := rfl
@[simp] theorem State.storeBytes_x (a : List Nat) (v : Word) :
    (s.storeBytes a v).x = s.x := rfl
@[simp] theorem State.storeBytes_f (a : List Nat) (v : Word) :
    (s.storeBytes a v).f = s.f := rfl
@[simp] theorem State.storeBytes_pc (a : List Nat) (v : Word) :
    (s.storeBytes a v).pc = s.pc := rfl
@[simp] theorem State.storeBytes_fflags (a : List Nat) (v : Word) :
    (s.storeBytes a v).fflags = s.fflags := rfl
@[simp] theorem State.storeBytes_frm (a : List Nat) (v : Word) :
    (s.storeBytes a v).frm = s.frm := rfl
@[simp] theorem State.storeBytes_uepc (a : List Nat) (v : Word) :
    (s.storeBytes a v).uepc = s.uepc := rfl
@[simp] theorem State.storeBytes_sepc (a : List Nat) (v : Word) :
    (s.storeBytes a v).sepc = s.sepc := rfl
@[simp] theorem State.storeBytes_mepc (a : List Nat) (v : Word) :
    (s.storeBytes a v).mepc = s.mepc := rfl
@[simp] theorem State.storeBytes_mie (a : List Nat) (v : Word) :
    (s.storeBytes a v).mie = s.mie := rfl
@[simp] theorem State.storeBytes_mpie (a : List Nat) (v : Word) :
    (s.storeBytes a v).mpie = s.mpie := rfl
@[simp] theorem State.storeBytes_mpp (a : List Nat) (v : Word) :
    (s.storeBytes a v).mpp = s.mpp := rfl
@[simp] theorem State.storeBytes_mtvec (a : List Nat) (v : Word) :
    (s.storeBytes a v).mtvec = s.mtvec := rfl
@[simp] theorem State.storeBytes_mscratch (a : List Nat) (v : Word) :
    (s.storeBytes a v).mscratch = s.mscratch := rfl
@[simp] theorem State.storeBytes_mcause (a : List Nat) (v : Word) :
    (s.storeBytes a v).mcause = s.mcause := rfl
@[simp] theorem State.storeBytes_mtval (a : List Nat) (v : Word) :
    (s.storeBytes a v).mtval = s.mtval := rfl
@[simp] theorem State.storeBytes_extra (a : List Nat) (v : Word) :
    (s.storeBytes a v).extra = s.extra := rfl
@[simp] theorem State.storeBytes_priv (a : List Nat) (v : Word) :
    (s.storeBytes a v).priv = s.priv := rfl
@[simp] theorem State.storeBytes_mem (a : List Nat) (v : Word) :
    (s.storeBytes a v).mem = s.mem.writeLE a v := rfl
@[simp] theorem State.storeBytes_modified (a : List Nat) (v : Word) :
    (s.storeBytes a v).modified = addAddrs s.modified a := rfl
@[simp] theorem State.storeBytes_outcome (a : List Nat) (v : Word) :
    (s.storeBytes a v).outcome = s.outcome := rfl
@[simp] theorem State.storeBytes_draws (a : List Nat) (v : Word) :
    (s.storeBytes a v).draws = s.draws := rfl
@[simp] theorem State.storeBytes_xlen (a : List Nat) (v : Word) :
    (s.storeBytes a v).xlen = s.xlen := rfl

/-! `writeExtra` -/

@[simp] theorem State.writeExtra_cfg (d : CsrDesc) (n : BitVec 12) (v : Word) :
    (s.writeExtra d n v).cfg = s.cfg := rfl
@[simp] theorem State.writeExtra_x (d : CsrDesc) (n : BitVec 12) (v : Word) :
    (s.writeExtra d n v).x = s.x := rfl
@[simp] theorem State.writeExtra_f (d : CsrDesc) (n : BitVec 12) (v : Word) :
    (s.writeExtra d n v).f = s.f := rfl
@[simp] theorem State.writeExtra_pc (d : CsrDesc) (n : BitVec 12) (v : Word) :
    (s.writeExtra d n v).pc = s.pc := rfl
@[simp] theorem State.writeExtra_fflags (d : CsrDesc) (n : BitVec 12) (v : Word) :
    (s.writeExtra d n v).fflags = s.fflags := rfl
@[simp] theorem State.writeExtra_frm (d : CsrDesc) (n : BitVec 12) (v : Word) :
    (s.writeExtra d n v).frm = s.frm := rfl
@[simp] theorem State.writeExtra_uepc (d : CsrDesc) (n : BitVec 12) (v : Word) :
    (s.writeExtra d n v).uepc = s.uepc := rfl
@[simp] theorem State.writeExtra_sepc (d : CsrDesc) (n : BitVec 12) (v : Word) :
    (s.writeExtra d n v).sepc = s.sepc := rfl
@[simp] theorem State.writeExtra_mepc (d : CsrDesc) (n : BitVec 12) (v : Word) :
    (s.writeExtra d n v).mepc = s.mepc := rfl
@[simp] theorem State.writeExtra_mie (d : CsrDesc) (n : BitVec 12) (v : Word) :
    (s.writeExtra d n v).mie = s.mie := rfl
@[simp] theorem State.writeExtra_mpie (d : CsrDesc) (n : BitVec 12) (v : Word) :
    (s.writeExtra d n v).mpie = s.mpie := rfl
@[simp] theorem State.writeExtra_mpp (d : CsrDesc) (n : BitVec 12) (v : Word) :
    (s.writeExtra d n v).mpp = s.mpp := rfl
@[simp] theorem State.writeExtra_mtvec (d : CsrDesc) (n : BitVec 12) (v : Word) :
    (s.writeExtra d n v).mtvec = s.mtvec := rfl
@[simp] theorem State.writeExtra_mscratch (d : CsrDesc) (n : BitVec 12) (v : Word) :
    (s.writeExtra d n v).mscratch = s.mscratch := rfl
@[simp] theorem State.writeExtra_mcause (d : CsrDesc) (n : BitVec 12) (v : Word) :
    (s.writeExtra d n v).mcause = s.mcause := rfl
@[simp] theorem State.writeExtra_mtval (d : CsrDesc) (n : BitVec 12) (v : Word) :
    (s.writeExtra d n v).mtval = s.mtval := rfl
@[simp] theorem State.writeExtra_extra (d : CsrDesc) (n : BitVec 12) (v : Word) :
    (s.writeExtra d n v).extra = setCsr n (s.xlen.narrow (d.written (s.extraVal n) (s.xlen.narrow v))) s.extra := rfl
@[simp] theorem State.writeExtra_priv (d : CsrDesc) (n : BitVec 12) (v : Word) :
    (s.writeExtra d n v).priv = s.priv := rfl
@[simp] theorem State.writeExtra_mem (d : CsrDesc) (n : BitVec 12) (v : Word) :
    (s.writeExtra d n v).mem = s.mem := rfl
@[simp] theorem State.writeExtra_modified (d : CsrDesc) (n : BitVec 12) (v : Word) :
    (s.writeExtra d n v).modified = s.modified := rfl
@[simp] theorem State.writeExtra_outcome (d : CsrDesc) (n : BitVec 12) (v : Word) :
    (s.writeExtra d n v).outcome = s.outcome := rfl
@[simp] theorem State.writeExtra_draws (d : CsrDesc) (n : BitVec 12) (v : Word) :
    (s.writeExtra d n v).draws = s.draws := rfl
@[simp] theorem State.writeExtra_xlen (d : CsrDesc) (n : BitVec 12) (v : Word) :
    (s.writeExtra d n v).xlen = s.xlen := rfl

/-! `hostPoke` -/

@[simp] theorem State.hostPoke_cfg (a : Nat) (b : Byte) :
    (s.hostPoke a b).cfg = s.cfg := rfl
@[simp] theorem State.hostPoke_x (a : Nat) (b : Byte) :
    (s.hostPoke a b).x = s.x := rfl
@[simp] theorem State.hostPoke_f (a : Nat) (b : Byte) :
    (s.hostPoke a b).f = s.f := rfl
@[simp] theorem State.hostPoke_pc (a : Nat) (b : Byte) :
    (s.hostPoke a b).pc = s.pc := rfl
@[simp] theorem State.hostPoke_fflags (a : Nat) (b : Byte) :
    (s.hostPoke a b).fflags = s.fflags := rfl
@[simp] theorem State.hostPoke_frm (a : Nat) (b : Byte) :
    (s.hostPoke a b).frm = s.frm := rfl
@[simp] theorem State.hostPoke_uepc (a : Nat) (b : Byte) :
    (s.hostPoke a b).uepc = s.uepc := rfl
@[simp] theorem State.hostPoke_sepc (a : Nat) (b : Byte) :
    (s.hostPoke a b).sepc = s.sepc := rfl
@[simp] theorem State.hostPoke_mepc (a : Nat) (b : Byte) :
    (s.hostPoke a b).mepc = s.mepc := rfl
@[simp] theorem State.hostPoke_mie (a : Nat) (b : Byte) :
    (s.hostPoke a b).mie = s.mie := rfl
@[simp] theorem State.hostPoke_mpie (a : Nat) (b : Byte) :
    (s.hostPoke a b).mpie = s.mpie := rfl
@[simp] theorem State.hostPoke_mpp (a : Nat) (b : Byte) :
    (s.hostPoke a b).mpp = s.mpp := rfl
@[simp] theorem State.hostPoke_mtvec (a : Nat) (b : Byte) :
    (s.hostPoke a b).mtvec = s.mtvec := rfl
@[simp] theorem State.hostPoke_mscratch (a : Nat) (b : Byte) :
    (s.hostPoke a b).mscratch = s.mscratch := rfl
@[simp] theorem State.hostPoke_mcause (a : Nat) (b : Byte) :
    (s.hostPoke a b).mcause = s.mcause := rfl
@[simp] theorem State.hostPoke_mtval (a : Nat) (b : Byte) :
    (s.hostPoke a b).mtval = s.mtval := rfl
@[simp] theorem State.hostPoke_extra (a : Nat) (b : Byte) :
    (s.hostPoke a b).extra = s.extra := rfl
@[simp] theorem State.hostPoke_priv (a : Nat) (b : Byte) :
    (s.hostPoke a b).priv = s.priv := rfl
@[simp] theorem State.hostPoke_mem (a : Nat) (b : Byte) :
    (s.hostPoke a b).mem = s.mem.write a b := rfl
@[simp] theorem State.hostPoke_modified (a : Nat) (b : Byte) :
    (s.hostPoke a b).modified = addAddr a s.modified := rfl
@[simp] theorem State.hostPoke_outcome (a : Nat) (b : Byte) :
    (s.hostPoke a b).outcome = s.outcome := rfl
@[simp] theorem State.hostPoke_draws (a : Nat) (b : Byte) :
    (s.hostPoke a b).draws = s.draws := rfl
@[simp] theorem State.hostPoke_xlen (a : Nat) (b : Byte) :
    (s.hostPoke a b).xlen = s.xlen := rfl

/-! `writeX` -/

@[simp] theorem State.writeX_cfg (r : Reg) (v : Word) :
    (s.writeX r v).cfg = s.cfg := by
  unfold State.writeX; split <;> rfl
@[simp] theorem State.writeX_x (r : Reg) (v : Word) :
    (s.writeX r v).x = if r = 0#5 then s.x else regSet s.x r (s.xlen.narrow v) := by
  unfold State.writeX; split <;> rfl
@[simp] theorem State.writeX_f (r : Reg) (v : Word) :
    (s.writeX r v).f = s.f := by
  unfold State.writeX; split <;> rfl
@[simp] theorem State.writeX_pc (r : Reg) (v : Word) :
    (s.writeX r v).pc = s.pc := by
  unfold State.writeX; split <;> rfl
@[simp] theorem State.writeX_fflags (r : Reg) (v : Word) :
    (s.writeX r v).fflags = s.fflags := by
  unfold State.writeX; split <;> rfl
@[simp] theorem State.writeX_frm (r : Reg) (v : Word) :
    (s.writeX r v).frm = s.frm := by
  unfold State.writeX; split <;> rfl
@[simp] theorem State.writeX_uepc (r : Reg) (v : Word) :
    (s.writeX r v).uepc = s.uepc := by
  unfold State.writeX; split <;> rfl
@[simp] theorem State.writeX_sepc (r : Reg) (v : Word) :
    (s.writeX r v).sepc = s.sepc := by
  unfold State.writeX; split <;> rfl
@[simp] theorem State.writeX_mepc (r : Reg) (v : Word) :
    (s.writeX r v).mepc = s.mepc := by
  unfold State.writeX; split <;> rfl
@[simp] theorem State.writeX_mie (r : Reg) (v : Word) :
    (s.writeX r v).mie = s.mie := by
  unfold State.writeX; split <;> rfl
@[simp] theorem State.writeX_mpie (r : Reg) (v : Word) :
    (s.writeX r v).mpie = s.mpie := by
  unfold State.writeX; split <;> rfl
@[simp] theorem State.writeX_mpp (r : Reg) (v : Word) :
    (s.writeX r v).mpp = s.mpp := by
  unfold State.writeX; split <;> rfl
@[simp] theorem State.writeX_mtvec (r : Reg) (v : Word) :
    (s.writeX r v).mtvec = s.mtvec := by
  unfold State.writeX; split <;> rfl
@[simp] theorem State.writeX_mscratch (r : Reg) (v : Word) :
    (s.writeX r v).mscratch = s.mscratch := by
  unfold State.writeX; split <;> rfl
@[simp] theorem State.writeX_mcause (r : Reg) (v : Word) :
    (s.writeX r v).mcause = s.mcause := by
  unfold State.writeX; split <;> rfl
@[simp] theorem State.writeX_mtval (r : Reg) (v : Word) :
    (s.writeX r v).mtval = s.mtval := by
  unfold State.writeX; split <;> rfl
@[simp] theorem State.writeX_extra (r : Reg) (v : Word) :
    (s.writeX r v).extra = s.extra := by
  unfold State.writeX; split <;> rfl
@[simp] theorem State.writeX_priv (r : Reg) (v : Word) :
    (s.writeX r v).priv = s.priv := by
  unfold State.writeX; split <;> rfl
@[simp] theorem State.writeX_mem (r : Reg) (v : Word) :
    (s.writeX r v).mem = s.mem := by
  unfold State.writeX; split <;> rfl
@[simp] theorem State.writeX_modified (r : Reg) (v : Word) :
    (s.writeX r v).modified = s.modified := by
  unfold State.writeX; split <;> rfl
@[simp] theorem State.writeX_outcome (r : Reg) (v : Word) :
    (s.writeX r v).outcome = s.outcome := by
  unfold State.writeX; split <;> rfl
@[simp] theorem State.writeX_draws (r : Reg) (v : Word) :
    (s.writeX r v).draws = s.draws := by
  unfold State.writeX; split <;> rfl
@[simp] theorem State.writeX_xlen (r : Reg) (v : Word) :
    (s.writeX r v).xlen = s.xlen := by
  unfold State.writeX; split <;> rfl
/-! `hostSet` -/

@[simp] theorem State.hostSet_cfg (r : HostReg) (v : Word) :
    (s.hostSet r v).cfg = s.cfg := by
  cases r <;> simp [State.hostSet]
@[simp] theorem State.hostSet_pc (r : HostReg) (v : Word) :
    (s.hostSet r v).pc = s.pc := by
  cases r <;> simp [State.hostSet]
@[simp] theorem State.hostSet_fflags (r : HostReg) (v : Word) :
    (s.hostSet r v).fflags = s.fflags := by
  cases r <;> simp [State.hostSet]
@[simp] theorem State.hostSet_frm (r : HostReg) (v : Word) :
    (s.hostSet r v).frm = s.frm := by
  cases r <;> simp [State.hostSet]
@[simp] theorem State.hostSet_uepc (r : HostReg) (v : Word) :
    (s.hostSet r v).uepc = s.uepc := by
  cases r <;> simp [State.hostSet]
@[simp] theorem State.hostSet_sepc (r : HostReg) (v : Word) :
    (s.hostSet r v).sepc = s.sepc := by
  cases r <;> simp [State.hostSet]
@[simp] theorem State.hostSet_mepc (r : HostReg) (v : Word) :
    (s.hostSet r v).mepc = s.mepc := by
  cases r <;> simp [State.hostSet]
@[simp] theorem State.hostSet_mie (r : HostReg) (v : Word) :
    (s.hostSet r v).mie = s.mie := by
  cases r <;> simp [State.hostSet]
@[simp] theorem State.hostSet_mpie (r : HostReg) (v : Word) :
    (s.hostSet r v).mpie = s.mpie := by
  cases r <;> simp [State.hostSet]
@[simp] theorem State.hostSet_mpp (r : HostReg) (v : Word) :
    (s.hostSet r v).mpp = s.mpp := by
  cases r <;> simp [State.hostSet]
@[simp] theorem State.hostSet_mtvec (r : HostReg) (v : Word) :
    (s.hostSet r v).mtvec = s.mtvec := by
  cases r <;> simp [State.hostSet]
@[simp] theorem State.hostSet_mscratch (r : HostReg) (v : Word) :
    (s.hostSet r v).mscratch = s.mscratch := by
  cases r <;> simp [State.hostSet]
@[simp] theorem State.hostSet_mcause (r : HostReg) (v : Word) :
    (s.hostSet r v).mcause = s.mcause := by
  cases r <;> simp [State.hostSet]
@[simp] theorem State.hostSet_mtval (r : HostReg) (v : Word) :
    (s.hostSet r v).mtval = s.mtval := by
  cases r <;> simp [State.hostSet]
@[simp] theorem State.hostSet_extra (r : HostReg) (v : Word) :
    (s.hostSet r v).extra = s.extra := by
  cases r <;> simp [State.hostSet]
@[simp] theorem State.hostSet_priv (r : HostReg) (v : Word) :
    (s.hostSet r v).priv = s.priv := by
  cases r <;> simp [State.hostSet]
@[simp] theorem State.hostSet_mem (r : HostReg) (v : Word) :
    (s.hostSet r v).mem = s.mem := by
  cases r <;> simp [State.hostSet]
@[simp] theorem State.hostSet_modified (r : HostReg) (v : Word) :
    (s.hostSet r v).modified = s.modified := by
  cases r <;> simp [State.hostSet]
@[simp] theorem State.hostSet_outcome (r : HostReg) (v : Word) :
    (s.hostSet r v).outcome = s.outcome := by
  cases r <;> simp [State.hostSet]
@[simp] theorem State.hostSet_draws (r : HostReg) (v : Word) :
    (s.hostSet r v).draws = s.draws := by
  cases r <;> simp [State.hostSet]
@[simp] theorem State.hostSet_xlen (r : HostReg) (v : Word) :
    (s.hostSet r v).xlen = s.xlen := by
  cases r <;> simp [State.hostSet]
/-! `writeCsr`: what no write of a control and status register changes -/

@[simp] theorem State.writeNamed_cfg (c : Csr) (v : Word) :
    (s.writeNamed c v).cfg = s.cfg := by
  cases c <;> rfl
@[simp] theorem State.writeCsr_cfg (n : BitVec 12) (v : Word) :
    (s.writeCsr n v).cfg = s.cfg := by
  unfold State.writeCsr; split
  · simp
  · split <;> simp
@[simp] theorem State.writeNamed_x (c : Csr) (v : Word) :
    (s.writeNamed c v).x = s.x := by
  cases c <;> rfl
@[simp] theorem State.writeCsr_x (n : BitVec 12) (v : Word) :
    (s.writeCsr n v).x = s.x := by
  unfold State.writeCsr; split
  · simp
  · split <;> simp
@[simp] theorem State.writeNamed_f (c : Csr) (v : Word) :
    (s.writeNamed c v).f = s.f := by
  cases c <;> rfl
@[simp] theorem State.writeCsr_f (n : BitVec 12) (v : Word) :
    (s.writeCsr n v).f = s.f := by
  unfold State.writeCsr; split
  · simp
  · split <;> simp
@[simp] theorem State.writeNamed_pc (c : Csr) (v : Word) :
    (s.writeNamed c v).pc = s.pc := by
  cases c <;> rfl
@[simp] theorem State.writeCsr_pc (n : BitVec 12) (v : Word) :
    (s.writeCsr n v).pc = s.pc := by
  unfold State.writeCsr; split
  · simp
  · split <;> simp
@[simp] theorem State.writeNamed_priv (c : Csr) (v : Word) :
    (s.writeNamed c v).priv = s.priv := by
  cases c <;> rfl
@[simp] theorem State.writeCsr_priv (n : BitVec 12) (v : Word) :
    (s.writeCsr n v).priv = s.priv := by
  unfold State.writeCsr; split
  · simp
  · split <;> simp
@[simp] theorem State.writeNamed_mem (c : Csr) (v : Word) :
    (s.writeNamed c v).mem = s.mem := by
  cases c <;> rfl
@[simp] theorem State.writeCsr_mem (n : BitVec 12) (v : Word) :
    (s.writeCsr n v).mem = s.mem := by
  unfold State.writeCsr; split
  · simp
  · split <;> simp
@[simp] theorem State.writeNamed_modified (c : Csr) (v : Word) :
    (s.writeNamed c v).modified = s.modified := by
  cases c <;> rfl
@[simp] theorem State.writeCsr_modified (n : BitVec 12) (v : Word) :
    (s.writeCsr n v).modified = s.modified := by
  unfold State.writeCsr; split
  · simp
  · split <;> simp
@[simp] theorem State.writeNamed_outcome (c : Csr) (v : Word) :
    (s.writeNamed c v).outcome = s.outcome := by
  cases c <;> rfl
@[simp] theorem State.writeCsr_outcome (n : BitVec 12) (v : Word) :
    (s.writeCsr n v).outcome = s.outcome := by
  unfold State.writeCsr; split
  · simp
  · split <;> simp
@[simp] theorem State.writeNamed_draws (c : Csr) (v : Word) :
    (s.writeNamed c v).draws = s.draws := by
  cases c <;> rfl
@[simp] theorem State.writeCsr_draws (n : BitVec 12) (v : Word) :
    (s.writeCsr n v).draws = s.draws := by
  unfold State.writeCsr; split
  · simp
  · split <;> simp

/-! ## Reading a register after an update -/

/-- A slot just written reads as the value written. -/
@[simp] theorem regGet_regSet_self (v : Vector Word 32) (r : Reg) (w : Word) :
    regGet (regSet v r w) r = w := by
  simp [regGet, regSet]

/-- The other slots are unchanged. -/
theorem regGet_regSet_ne (v : Vector Word 32) {r q : Reg} (w : Word) (h : q ≠ r) :
    regGet (regSet v r w) q = regGet v q := by
  have h' : r.toNat ≠ q.toNat := fun e => h (BitVec.eq_of_toNat_eq e.symm)
  simp [regGet, regSet, h']

end Sys2Proof.Machine
end

