-- ==== Sys2Proof/Laws/Ops.lean ====
section
/-! SUPPORT. What each shared operation can do, said once. -/

namespace Sys2Proof.Machine

/-! ## Widths -/

theorem Xlen.toNat_narrow (x : Xlen) (v : Word) : (x.narrow v).toNat = v.toNat % 2 ^ x.bits := by
  cases x
  · simp only [Xlen.narrow, Xlen.bits, BitVec.toNat_setWidth]
    omega
  · simp only [Xlen.narrow, Xlen.bits]
    exact (Nat.mod_eq_of_lt v.isLt).symm

@[simp] theorem Xlen.narrow_narrow (x : Xlen) (v : Word) : x.narrow (x.narrow v) = x.narrow v := by
  apply BitVec.eq_of_toNat_eq
  simp [Xlen.toNat_narrow]

@[simp] theorem Xlen.narrow_zero (x : Xlen) : x.narrow 0#64 = 0#64 := by cases x <;> rfl

@[simp] theorem Xlen.narrow_lift1 (x : Xlen) (op : (w : Nat) → BitVec w → BitVec w) (a : Word) :
    x.narrow (x.lift1 op a) = x.lift1 op a := by
  cases x
  · simp [Xlen.narrow, Xlen.lift1]
  · rfl

@[simp] theorem Xlen.narrow_lift2 (x : Xlen) (op : (w : Nat) → BitVec w → BitVec w → BitVec w)
    (a b : Word) : x.narrow (x.lift2 op a b) = x.lift2 op a b := by
  cases x
  · simp [Xlen.narrow, Xlen.lift2]
  · rfl

theorem Xlen.unsigned_eq (x : Xlen) (v : Word) : x.unsigned v = v.toNat % 2 ^ x.bits := by
  cases x
  · simp [Xlen.unsigned, Xlen.bits]
  · simp only [Xlen.unsigned, Xlen.bits]
    exact (Nat.mod_eq_of_lt v.isLt).symm

@[simp] theorem flenNarrow_flenNarrow (i : Isa) (v : Word) :
    flenNarrow i (flenNarrow i v) = flenNarrow i v := by
  unfold flenNarrow; split <;> simp

@[simp] theorem alignPc_alignPc (i : Isa) (v : Word) : i.alignPc (i.alignPc v) = i.alignPc v := by
  unfold Isa.alignPc; split <;> simp [BitVec.and_assoc]

/-! ## Registers -/

@[simp] theorem State.readX_zero (s : State) : s.readX 0#5 = 0#64 := by simp [State.readX]

@[simp] theorem State.writeX_zero (s : State) (v : Word) : s.writeX 0#5 v = s := by
  simp [State.writeX]

/-- `readX` depends on the integer file alone. -/
theorem State.readX_congr {s t : State} (h : t.x = s.x) (r : Reg) : t.readX r = s.readX r := by
  simp [State.readX, h]

/-- `readF` depends on the floating-point file alone. -/
theorem State.readF_congr {s t : State} (h : t.f = s.f) (r : Reg) : t.readF r = s.readF r := by
  simp [State.readF, h]

/-- A register written keeps the other registers. -/
theorem State.readX_writeX_ne (s : State) {r q : Reg} (v : Word) (h : q ≠ r) :
    (s.writeX r v).readX q = s.readX q := by
  simp only [State.readX, State.writeX_x]
  split
  · rfl
  · split
    · rfl
    · exact regGet_regSet_ne _ _ h

/-! ## Exceptions -/

/-- A raise writes the outcome record, or enters the handler. -/
theorem State.raise_cases (s : State) (e : Exc) (info : Word) :
    (s.cfg.trapLayer = .fault ∧ s.raise e info = s.stop (.exception e) info) ∨
    (s.cfg.trapLayer = .mmode ∧ s.raise e info = s.trapEntry e info) := by
  cases h : s.cfg.trapLayer <;> simp [State.raise, h]

@[simp] theorem State.raise_cfg (s : State) (e : Exc) (info : Word) :
    (s.raise e info).cfg = s.cfg := by
  rcases s.raise_cases e info with ⟨_, h⟩ | ⟨_, h⟩ <;> simp [h]

@[simp] theorem State.raise_x (s : State) (e : Exc) (info : Word) : (s.raise e info).x = s.x := by
  rcases s.raise_cases e info with ⟨_, h⟩ | ⟨_, h⟩ <;> simp [h]

@[simp] theorem State.raise_f (s : State) (e : Exc) (info : Word) : (s.raise e info).f = s.f := by
  rcases s.raise_cases e info with ⟨_, h⟩ | ⟨_, h⟩ <;> simp [h]

@[simp] theorem State.raise_mem (s : State) (e : Exc) (info : Word) :
    (s.raise e info).mem = s.mem := by
  rcases s.raise_cases e info with ⟨_, h⟩ | ⟨_, h⟩ <;> simp [h]

@[simp] theorem State.raise_modified (s : State) (e : Exc) (info : Word) :
    (s.raise e info).modified = s.modified := by
  rcases s.raise_cases e info with ⟨_, h⟩ | ⟨_, h⟩ <;> simp [h]

@[simp] theorem State.raise_fflags (s : State) (e : Exc) (info : Word) :
    (s.raise e info).fflags = s.fflags := by
  rcases s.raise_cases e info with ⟨_, h⟩ | ⟨_, h⟩ <;> simp [h]

@[simp] theorem State.raise_uepc (s : State) (e : Exc) (info : Word) :
    (s.raise e info).uepc = s.uepc := by
  rcases s.raise_cases e info with ⟨_, h⟩ | ⟨_, h⟩ <;> simp [h]

@[simp] theorem State.raise_sepc (s : State) (e : Exc) (info : Word) :
    (s.raise e info).sepc = s.sepc := by
  rcases s.raise_cases e info with ⟨_, h⟩ | ⟨_, h⟩ <;> simp [h]

/-- `listed` runs the meaning, or raises `IllegalInstruction` with the instruction's bits. -/
theorem State.listed_cases (s : State) (i : Instr) (k : State → State) :
    (i.wf s.cfg.isa = true ∧ s.listed i k = k s) ∨
    (i.wf s.cfg.isa = false ∧
      s.listed i k = s.raise .illegalInstruction (encode i).bits) := by
  cases h : i.wf s.cfg.isa <;> simp [State.listed, State.illegal, h]

/-- `withRm` runs the meaning with the resolved mode, or raises. -/
theorem State.withRm_cases (s : State) (i : Instr) (rm : RmField) (k : RoundMode → State) :
    (∃ mode, s.resolveRm rm = some mode ∧ s.withRm i rm k = k mode) ∨
    (s.resolveRm rm = none ∧
      s.withRm i rm k = s.raise .illegalInstruction (encode i).bits) := by
  cases h : s.resolveRm rm <;> simp [State.withRm, State.illegal, h]

/-! ## Control transfer -/

/-- A transfer goes to an aligned target after the other writes, or raises. -/
theorem State.transfer_cases (s : State) (target : Word) (k : State → State) :
    (s.cfg.isa.pcAligned (s.xlen.narrow target) = true ∧
      s.transfer target k = (k s).setPc target) ∨
    (s.cfg.isa.pcAligned (s.xlen.narrow target) = false ∧
      s.transfer target k = s.raise .instructionAddressMisaligned (s.xlen.narrow target)) := by
  cases h : s.cfg.isa.pcAligned (s.xlen.narrow target) <;> simp [State.transfer, h]

/-- A branch transfers without other writes, or advances. -/
theorem State.branch_cases (s : State) (taken : Bool) (target : Word) (ilen : Nat) :
    (taken = true ∧ s.branch taken target ilen = s.transfer target (fun s => s)) ∨
    (taken = false ∧ s.branch taken target ilen = s.advance ilen) := by
  cases taken <;> simp [State.branch]

/-! ## Memory access -/

/-- When a load raises, and what. -/
theorem State.loadFault_cases (s : State) (ea : Word) (n : Nat) :
    (misaligned ea n = true ∧ s.cfg.misaligned = .fault ∧
      s.loadFault ea n = some .loadAddressMisaligned) ∨
    ((misaligned ea n = false ∨ s.cfg.misaligned = .split) ∧
      (((∀ a ∈ s.accessAddrs ea n, s.canRead a = true) ∧ s.loadFault ea n = none) ∨
       ((∃ a ∈ s.accessAddrs ea n, s.canRead a = false) ∧
        s.loadFault ea n = some .loadAccessFault))) := by
  unfold State.loadFault
  cases hm : misaligned ea n <;> cases hc : s.cfg.misaligned <;>
    cases hr : (s.accessAddrs ea n).all s.canRead <;> simp_all

/-- When a store raises, and what. -/
theorem State.storeFault_cases (s : State) (ea : Word) (n : Nat) :
    (misaligned ea n = true ∧ s.cfg.misaligned = .fault ∧
      s.storeFault ea n = some .storeAddressMisaligned) ∨
    ((misaligned ea n = false ∨ s.cfg.misaligned = .split) ∧
      (((∀ a ∈ s.accessAddrs ea n, s.canWrite a = true) ∧ s.storeFault ea n = none) ∨
       ((∃ a ∈ s.accessAddrs ea n, s.canWrite a = false) ∧
        s.storeFault ea n = some .storeAccessFault))) := by
  unfold State.storeFault
  cases hm : misaligned ea n <;> cases hc : s.cfg.misaligned <;>
    cases hr : (s.accessAddrs ea n).all s.canWrite <;> simp_all

/-- A load raises, or goes on with the value read. -/
theorem State.load_cases (s : State) (ea : Word) (n : Nat) (k : Word → State) :
    (∃ e, s.loadFault ea n = some e ∧ s.load ea n k = s.raise e ea) ∨
    (s.loadFault ea n = none ∧ s.load ea n k = k (s.mem.readLE (s.accessAddrs ea n))) := by
  cases h : s.loadFault ea n <;> simp [State.load, h]

/-- A store that raises has changed nothing, or, split into single bytes, has written some of the bytes
below the first one it may not write. -/
theorem State.storePart_cases (s : State) (ea : Word) (n : Nat) (v : Word) :
    ((misaligned ea n = false ∨ s.cfg.misaligned = .fault) ∧ s.storePart ea n v = s) ∨
    (misaligned ea n = true ∧ s.cfg.misaligned = .split ∧ ∃ k, s.storePart ea n v =
      { s.storeBytes (((s.accessAddrs ea n).takeWhile s.canWrite).take k) v with
          draws := s.draws + 1 }) := by
  cases hm : misaligned ea n <;> cases hc : s.cfg.misaligned <;> simp [State.storePart, hm, hc]
  exact ⟨_, rfl, rfl⟩

@[simp] theorem State.storePart_cfg (s : State) (ea : Word) (n : Nat) (v : Word) :
    (s.storePart ea n v).cfg = s.cfg := by
  rcases s.storePart_cases ea n v with ⟨_, h⟩ | ⟨_, _, k, h⟩ <;> rw [h] <;> rfl

@[simp] theorem State.storePart_priv (s : State) (ea : Word) (n : Nat) (v : Word) :
    (s.storePart ea n v).priv = s.priv := by
  rcases s.storePart_cases ea n v with ⟨_, h⟩ | ⟨_, _, k, h⟩ <;> rw [h] <;> rfl

@[simp] theorem State.storePart_pc (s : State) (ea : Word) (n : Nat) (v : Word) :
    (s.storePart ea n v).pc = s.pc := by
  rcases s.storePart_cases ea n v with ⟨_, h⟩ | ⟨_, _, k, h⟩ <;> rw [h] <;> rfl

/-- A store raises, perhaps after some bytes of a split access, or writes its bytes and advances. -/
theorem State.store_cases (s : State) (ea : Word) (n : Nat) (v : Word) (ilen : Nat) :
    (∃ e, s.storeFault ea n = some e ∧
      s.store ea n v ilen = (s.storePart ea n v).raise e ea) ∨
    (s.storeFault ea n = none ∧
      s.store ea n v ilen = (s.storeBytes (s.accessAddrs ea n) v).advance ilen) := by
  cases h : s.storeFault ea n <;> simp [State.store, h]

/-- A CSR instruction that passes its checks writes the register if it writes, then `rd`; one that
does not raises. -/
theorem State.csrAccess_cases (s : State) (i : Instr) (rd : Reg) (n : BitVec 12) (writes : Bool)
    (new : Word → Word) :
    (s.csrAllowed n writes = true ∧
      s.csrAccess i rd n writes new =
        ((if writes then s.writeCsr n (new (s.readCsr n)) else s).writeX rd
          (s.readCsr n)).advance 4) ∨
    (s.csrAllowed n writes = false ∧
      s.csrAccess i rd n writes new = s.raise .illegalInstruction (encode i).bits) := by
  cases h : s.csrAllowed n writes <;> simp [State.csrAccess, State.illegal, h]

/-! ## Services of the host -/

/-- Writing the registers of a service changes the two register files alone. -/
theorem State.hostSetAll_fields (s : State) (q : HostQuery) (i : Nat) (rs : List HostReg) :
    s.hostSetAll q i rs =
      { s with x := (s.hostSetAll q i rs).x, f := (s.hostSetAll q i rs).f } := by
  induction rs generalizing s i with
  | nil => rfl
  | cons r rs ih =>
    rw [State.hostSetAll, ih]
    simp

/-- Writing the bytes of a service changes memory and the record of modified bytes alone. -/
theorem State.hostPokeAll_fields (s : State) (q : HostQuery) (i : Nat) (as : List Nat) :
    s.hostPokeAll q i as =
      { s with mem := (s.hostPokeAll q i as).mem, modified := (s.hostPokeAll q i as).modified } := by
  induction as generalizing s i with
  | nil => rfl
  | cons a as ih => rw [State.hostPokeAll, ih]; rfl

/-- What the writes of a service can change. -/
theorem State.hostEffect_fields (s : State) (h : HostService) :
    s.hostEffect h =
      { s with x := (s.hostEffect h).x, f := (s.hostEffect h).f, mem := (s.hostEffect h).mem,
               modified := (s.hostEffect h).modified, draws := s.draws + 1 } := by
  simp only [State.hostEffect]
  rw [State.hostPokeAll_fields, State.hostSetAll_fields]

/-- What a service leaves. -/
theorem State.hostServe_cases (s : State) (h : HostService) :
    (h.resumes = true ∧
      s.hostServe h = { s.hostEffect h with outcome := .running, pc := s.nextPc 4 }) ∨
    (h.resumes = false ∧ s.hostServe h = s.hostEffect h) := by
  cases hr : h.resumes <;> simp [State.hostServe, hr]

/-- An environment call enters the handler, ends the run, or ends with the service selected. -/
theorem State.environmentCall_cases (s : State) :
    s.environmentCall = s.raise (.environmentCall s.priv) 0#64 ∨
    ∃ h, s.cfg.trapLayer = .fault ∧ h ∈ s.cfg.host ∧
      (s.raise (.environmentCall s.priv) 0#64).hostRow = some h ∧
      s.environmentCall = (s.raise (.environmentCall s.priv) 0#64).hostServe h := by
  simp only [State.environmentCall]
  split
  · exact .inl rfl
  · rename_i hl
    split
    · rename_i h hr
      refine .inr ⟨h, hl, ?_, hr, rfl⟩
      simpa using List.mem_of_find?_eq_some hr
    · exact .inl rfl

/-! ## Steps -/

/-- What a step that goes on has done: the machine was running, and the step was ended by fetch or
decode, or was the instruction decoded. -/
theorem step_next_cases {s t : State} (h : step s = .next t) :
    s.outcome = .running ∧
      (s.fetchDecode = .done t ∨ ∃ i, s.fetchDecode = .run i ∧ exec i s = .next t) := by
  unfold step at h
  split at h
  · cases h
  · rename_i hr
    refine ⟨hr, ?_⟩
    split at h
    · rename_i u hu
      cases h
      exact .inl hu
    · rename_i i hi
      exact .inr ⟨i, hi, h⟩

/-- How fetch or decode ends a step. -/
theorem State.fetchDecode_done {s t : State} (h : s.fetchDecode = .done t) :
    t = s.raise .instructionAccessFault s.pc ∨ t = s.stop .fetchOfModifiedMemory s.pc ∨
      ∃ x : Fetched, t = s.raise .illegalInstruction x.bits := by
  unfold State.fetchDecode at h
  split at h
  · cases h; exact .inl rfl
  · cases h; exact .inr (.inl rfl)
  · split at h
    · cases h
    · cases h; exact .inr (.inr ⟨_, rfl⟩)

/-- A run instruction is one of the machine's, decoded from what was fetched. -/
theorem State.fetchDecode_run {s : State} {i : Instr} (h : s.fetchDecode = .run i) :
    ∃ x, s.fetch = .got x ∧ decode s.cfg.isa x = .ok i := by
  unfold State.fetchDecode at h
  split at h
  · cases h
  · cases h
  · rename_i x hx
    split at h
    · rename_i j hj
      cases h
      exact ⟨x, hx, hj⟩
    · cases h

end Sys2Proof.Machine
end

