-- ==== Sys2Proof/Laws/PerInstr.lean ====
section
/-! SUPPORT. A family of laws about every instruction: the low two bits of an encoding tell its length
(`spec/30_encoding.md` R101). -/

namespace Sys2Proof.Laws

/-- The length tag agrees with the length. -/
def LengthTag.Tagged : Fetched → Prop
  | .half h => isFull h = false
  | .full w => isFull (w.extractLsb' 0 16) = true

/-- The encoding of an instruction carries the tag of its length. -/
def LengthTag.Statement (i : Instr) : Prop := LengthTag.Tagged (encode i)

/-- A 32-bit format whose last seven bits end in `11`. -/
theorem isFull_append (a : BitVec 25) (op : BitVec 7) (h : op.extractLsb' 0 2 = 0b11#2) :
    isFull ((a ++ op : BitVec 32).extractLsb' 0 16) = true := by
  have : ((a ++ op : BitVec 32).extractLsb' 0 16).extractLsb' 0 2 = op.extractLsb' 0 2 := by
    ext i hi
    have h7 : i < 7 := by omega
    have e : (a ++ op : BitVec 32).getLsbD i = _ := BitVec.getLsbD_append
    simp [e, h7]
  simp [isFull, this, h]

/-- A 16-bit format whose last two bits are not `11`. -/
theorem isHalf_append (a : BitVec 14) (op : BitVec 2) (h : op ≠ 0b11#2) :
    isFull (a ++ op : BitVec 16) = false := by
  have : (a ++ op : BitVec 16).extractLsb' 0 2 = op := by
    ext i hi
    have e : (a ++ op : BitVec 16).getLsbD i = _ := BitVec.getLsbD_append
    simp [e, hi]
  simpa [isFull, this] using h

theorem LengthTag.lb (rd rs1 : Reg) (imm : BitVec 12) :
    LengthTag.Statement (.lb rd rs1 imm) := isFull_append _ _ rfl

theorem LengthTag.lh (rd rs1 : Reg) (imm : BitVec 12) :
    LengthTag.Statement (.lh rd rs1 imm) := isFull_append _ _ rfl

theorem LengthTag.lw (rd rs1 : Reg) (imm : BitVec 12) :
    LengthTag.Statement (.lw rd rs1 imm) := isFull_append _ _ rfl

theorem LengthTag.lbu (rd rs1 : Reg) (imm : BitVec 12) :
    LengthTag.Statement (.lbu rd rs1 imm) := isFull_append _ _ rfl

theorem LengthTag.lhu (rd rs1 : Reg) (imm : BitVec 12) :
    LengthTag.Statement (.lhu rd rs1 imm) := isFull_append _ _ rfl

theorem LengthTag.addi (rd rs1 : Reg) (imm : BitVec 12) :
    LengthTag.Statement (.addi rd rs1 imm) := isFull_append _ _ rfl

theorem LengthTag.slli (rd rs1 : Reg) (shamt : BitVec 6) :
    LengthTag.Statement (.slli rd rs1 shamt) := isFull_append _ _ rfl

theorem LengthTag.slti (rd rs1 : Reg) (imm : BitVec 12) :
    LengthTag.Statement (.slti rd rs1 imm) := isFull_append _ _ rfl

theorem LengthTag.sltiu (rd rs1 : Reg) (imm : BitVec 12) :
    LengthTag.Statement (.sltiu rd rs1 imm) := isFull_append _ _ rfl

theorem LengthTag.xori (rd rs1 : Reg) (imm : BitVec 12) :
    LengthTag.Statement (.xori rd rs1 imm) := isFull_append _ _ rfl

theorem LengthTag.srli (rd rs1 : Reg) (shamt : BitVec 6) :
    LengthTag.Statement (.srli rd rs1 shamt) := isFull_append _ _ rfl

theorem LengthTag.srai (rd rs1 : Reg) (shamt : BitVec 6) :
    LengthTag.Statement (.srai rd rs1 shamt) := isFull_append _ _ rfl

theorem LengthTag.ori (rd rs1 : Reg) (imm : BitVec 12) :
    LengthTag.Statement (.ori rd rs1 imm) := isFull_append _ _ rfl

theorem LengthTag.andi (rd rs1 : Reg) (imm : BitVec 12) :
    LengthTag.Statement (.andi rd rs1 imm) := isFull_append _ _ rfl

theorem LengthTag.auipc (rd : Reg) (upimm : BitVec 20) :
    LengthTag.Statement (.auipc rd upimm) := isFull_append _ _ rfl

theorem LengthTag.sb (rs2 rs1 : Reg) (imm : BitVec 12) :
    LengthTag.Statement (.sb rs2 rs1 imm) := isFull_append _ _ rfl

theorem LengthTag.sh (rs2 rs1 : Reg) (imm : BitVec 12) :
    LengthTag.Statement (.sh rs2 rs1 imm) := isFull_append _ _ rfl

theorem LengthTag.sw (rs2 rs1 : Reg) (imm : BitVec 12) :
    LengthTag.Statement (.sw rs2 rs1 imm) := isFull_append _ _ rfl

theorem LengthTag.add (rd rs1 rs2 : Reg) :
    LengthTag.Statement (.add rd rs1 rs2) := isFull_append _ _ rfl

theorem LengthTag.sub (rd rs1 rs2 : Reg) :
    LengthTag.Statement (.sub rd rs1 rs2) := isFull_append _ _ rfl

theorem LengthTag.sll (rd rs1 rs2 : Reg) :
    LengthTag.Statement (.sll rd rs1 rs2) := isFull_append _ _ rfl

theorem LengthTag.slt (rd rs1 rs2 : Reg) :
    LengthTag.Statement (.slt rd rs1 rs2) := isFull_append _ _ rfl

theorem LengthTag.sltu (rd rs1 rs2 : Reg) :
    LengthTag.Statement (.sltu rd rs1 rs2) := isFull_append _ _ rfl

theorem LengthTag.xor (rd rs1 rs2 : Reg) :
    LengthTag.Statement (.xor rd rs1 rs2) := isFull_append _ _ rfl

theorem LengthTag.srl (rd rs1 rs2 : Reg) :
    LengthTag.Statement (.srl rd rs1 rs2) := isFull_append _ _ rfl

theorem LengthTag.sra (rd rs1 rs2 : Reg) :
    LengthTag.Statement (.sra rd rs1 rs2) := isFull_append _ _ rfl

theorem LengthTag.or (rd rs1 rs2 : Reg) :
    LengthTag.Statement (.or rd rs1 rs2) := isFull_append _ _ rfl

theorem LengthTag.and (rd rs1 rs2 : Reg) :
    LengthTag.Statement (.and rd rs1 rs2) := isFull_append _ _ rfl

theorem LengthTag.lui (rd : Reg) (upimm : BitVec 20) :
    LengthTag.Statement (.lui rd upimm) := isFull_append _ _ rfl

theorem LengthTag.beq (rs1 rs2 : Reg) (imm : BitVec 12) :
    LengthTag.Statement (.beq rs1 rs2 imm) := isFull_append _ _ rfl

theorem LengthTag.bne (rs1 rs2 : Reg) (imm : BitVec 12) :
    LengthTag.Statement (.bne rs1 rs2 imm) := isFull_append _ _ rfl

theorem LengthTag.blt (rs1 rs2 : Reg) (imm : BitVec 12) :
    LengthTag.Statement (.blt rs1 rs2 imm) := isFull_append _ _ rfl

theorem LengthTag.bge (rs1 rs2 : Reg) (imm : BitVec 12) :
    LengthTag.Statement (.bge rs1 rs2 imm) := isFull_append _ _ rfl

theorem LengthTag.bltu (rs1 rs2 : Reg) (imm : BitVec 12) :
    LengthTag.Statement (.bltu rs1 rs2 imm) := isFull_append _ _ rfl

theorem LengthTag.bgeu (rs1 rs2 : Reg) (imm : BitVec 12) :
    LengthTag.Statement (.bgeu rs1 rs2 imm) := isFull_append _ _ rfl

theorem LengthTag.jalr (rd rs1 : Reg) (imm : BitVec 12) :
    LengthTag.Statement (.jalr rd rs1 imm) := isFull_append _ _ rfl

theorem LengthTag.jal (rd : Reg) (imm : BitVec 20) :
    LengthTag.Statement (.jal rd imm) := isFull_append _ _ rfl

theorem LengthTag.ld (rd rs1 : Reg) (imm : BitVec 12) :
    LengthTag.Statement (.ld rd rs1 imm) := isFull_append _ _ rfl

theorem LengthTag.lwu (rd rs1 : Reg) (imm : BitVec 12) :
    LengthTag.Statement (.lwu rd rs1 imm) := isFull_append _ _ rfl

theorem LengthTag.addiw (rd rs1 : Reg) (imm : BitVec 12) :
    LengthTag.Statement (.addiw rd rs1 imm) := isFull_append _ _ rfl

theorem LengthTag.slliw (rd rs1 : Reg) (shamt : BitVec 5) :
    LengthTag.Statement (.slliw rd rs1 shamt) := isFull_append _ _ rfl

theorem LengthTag.srliw (rd rs1 : Reg) (shamt : BitVec 5) :
    LengthTag.Statement (.srliw rd rs1 shamt) := isFull_append _ _ rfl

theorem LengthTag.sraiw (rd rs1 : Reg) (shamt : BitVec 5) :
    LengthTag.Statement (.sraiw rd rs1 shamt) := isFull_append _ _ rfl

theorem LengthTag.sd (rs2 rs1 : Reg) (imm : BitVec 12) :
    LengthTag.Statement (.sd rs2 rs1 imm) := isFull_append _ _ rfl

theorem LengthTag.addw (rd rs1 rs2 : Reg) :
    LengthTag.Statement (.addw rd rs1 rs2) := isFull_append _ _ rfl

theorem LengthTag.subw (rd rs1 rs2 : Reg) :
    LengthTag.Statement (.subw rd rs1 rs2) := isFull_append _ _ rfl

theorem LengthTag.sllw (rd rs1 rs2 : Reg) :
    LengthTag.Statement (.sllw rd rs1 rs2) := isFull_append _ _ rfl

theorem LengthTag.srlw (rd rs1 rs2 : Reg) :
    LengthTag.Statement (.srlw rd rs1 rs2) := isFull_append _ _ rfl

theorem LengthTag.sraw (rd rs1 rs2 : Reg) :
    LengthTag.Statement (.sraw rd rs1 rs2) := isFull_append _ _ rfl

theorem LengthTag.fmaddS (fd fs1 fs2 fs3 : Reg) (rm : RmField) :
    LengthTag.Statement (.fmaddS fd fs1 fs2 fs3 rm) := isFull_append _ _ rfl

theorem LengthTag.fmaddD (fd fs1 fs2 fs3 : Reg) (rm : RmField) :
    LengthTag.Statement (.fmaddD fd fs1 fs2 fs3 rm) := isFull_append _ _ rfl

theorem LengthTag.fmsubS (fd fs1 fs2 fs3 : Reg) (rm : RmField) :
    LengthTag.Statement (.fmsubS fd fs1 fs2 fs3 rm) := isFull_append _ _ rfl

theorem LengthTag.fmsubD (fd fs1 fs2 fs3 : Reg) (rm : RmField) :
    LengthTag.Statement (.fmsubD fd fs1 fs2 fs3 rm) := isFull_append _ _ rfl

theorem LengthTag.fnmsubS (fd fs1 fs2 fs3 : Reg) (rm : RmField) :
    LengthTag.Statement (.fnmsubS fd fs1 fs2 fs3 rm) := isFull_append _ _ rfl

theorem LengthTag.fnmsubD (fd fs1 fs2 fs3 : Reg) (rm : RmField) :
    LengthTag.Statement (.fnmsubD fd fs1 fs2 fs3 rm) := isFull_append _ _ rfl

theorem LengthTag.fnmaddS (fd fs1 fs2 fs3 : Reg) (rm : RmField) :
    LengthTag.Statement (.fnmaddS fd fs1 fs2 fs3 rm) := isFull_append _ _ rfl

theorem LengthTag.fnmaddD (fd fs1 fs2 fs3 : Reg) (rm : RmField) :
    LengthTag.Statement (.fnmaddD fd fs1 fs2 fs3 rm) := isFull_append _ _ rfl

theorem LengthTag.faddS (fd fs1 fs2 : Reg) (rm : RmField) :
    LengthTag.Statement (.faddS fd fs1 fs2 rm) := isFull_append _ _ rfl

theorem LengthTag.faddD (fd fs1 fs2 : Reg) (rm : RmField) :
    LengthTag.Statement (.faddD fd fs1 fs2 rm) := isFull_append _ _ rfl

theorem LengthTag.fsubS (fd fs1 fs2 : Reg) (rm : RmField) :
    LengthTag.Statement (.fsubS fd fs1 fs2 rm) := isFull_append _ _ rfl

theorem LengthTag.fsubD (fd fs1 fs2 : Reg) (rm : RmField) :
    LengthTag.Statement (.fsubD fd fs1 fs2 rm) := isFull_append _ _ rfl

theorem LengthTag.fmulS (fd fs1 fs2 : Reg) (rm : RmField) :
    LengthTag.Statement (.fmulS fd fs1 fs2 rm) := isFull_append _ _ rfl

theorem LengthTag.fmulD (fd fs1 fs2 : Reg) (rm : RmField) :
    LengthTag.Statement (.fmulD fd fs1 fs2 rm) := isFull_append _ _ rfl

theorem LengthTag.fdivS (fd fs1 fs2 : Reg) (rm : RmField) :
    LengthTag.Statement (.fdivS fd fs1 fs2 rm) := isFull_append _ _ rfl

theorem LengthTag.fdivD (fd fs1 fs2 : Reg) (rm : RmField) :
    LengthTag.Statement (.fdivD fd fs1 fs2 rm) := isFull_append _ _ rfl

theorem LengthTag.fsqrtS (fd fs1 : Reg) (rm : RmField) :
    LengthTag.Statement (.fsqrtS fd fs1 rm) := isFull_append _ _ rfl

theorem LengthTag.fsqrtD (fd fs1 : Reg) (rm : RmField) :
    LengthTag.Statement (.fsqrtD fd fs1 rm) := isFull_append _ _ rfl

theorem LengthTag.fsgnjS (fd fs1 fs2 : Reg) :
    LengthTag.Statement (.fsgnjS fd fs1 fs2) := isFull_append _ _ rfl

theorem LengthTag.fsgnjD (fd fs1 fs2 : Reg) :
    LengthTag.Statement (.fsgnjD fd fs1 fs2) := isFull_append _ _ rfl

theorem LengthTag.fsgnjnS (fd fs1 fs2 : Reg) :
    LengthTag.Statement (.fsgnjnS fd fs1 fs2) := isFull_append _ _ rfl

theorem LengthTag.fsgnjnD (fd fs1 fs2 : Reg) :
    LengthTag.Statement (.fsgnjnD fd fs1 fs2) := isFull_append _ _ rfl

theorem LengthTag.fsgnjxS (fd fs1 fs2 : Reg) :
    LengthTag.Statement (.fsgnjxS fd fs1 fs2) := isFull_append _ _ rfl

theorem LengthTag.fsgnjxD (fd fs1 fs2 : Reg) :
    LengthTag.Statement (.fsgnjxD fd fs1 fs2) := isFull_append _ _ rfl

theorem LengthTag.fminS (fd fs1 fs2 : Reg) :
    LengthTag.Statement (.fminS fd fs1 fs2) := isFull_append _ _ rfl

theorem LengthTag.fminD (fd fs1 fs2 : Reg) :
    LengthTag.Statement (.fminD fd fs1 fs2) := isFull_append _ _ rfl

theorem LengthTag.fmaxS (fd fs1 fs2 : Reg) :
    LengthTag.Statement (.fmaxS fd fs1 fs2) := isFull_append _ _ rfl

theorem LengthTag.fmaxD (fd fs1 fs2 : Reg) :
    LengthTag.Statement (.fmaxD fd fs1 fs2) := isFull_append _ _ rfl

theorem LengthTag.feqS (rd fs1 fs2 : Reg) :
    LengthTag.Statement (.feqS rd fs1 fs2) := isFull_append _ _ rfl

theorem LengthTag.feqD (rd fs1 fs2 : Reg) :
    LengthTag.Statement (.feqD rd fs1 fs2) := isFull_append _ _ rfl

theorem LengthTag.fltS (rd fs1 fs2 : Reg) :
    LengthTag.Statement (.fltS rd fs1 fs2) := isFull_append _ _ rfl

theorem LengthTag.fltD (rd fs1 fs2 : Reg) :
    LengthTag.Statement (.fltD rd fs1 fs2) := isFull_append _ _ rfl

theorem LengthTag.fleS (rd fs1 fs2 : Reg) :
    LengthTag.Statement (.fleS rd fs1 fs2) := isFull_append _ _ rfl

theorem LengthTag.fleD (rd fs1 fs2 : Reg) :
    LengthTag.Statement (.fleD rd fs1 fs2) := isFull_append _ _ rfl

theorem LengthTag.fclassS (rd fs1 : Reg) :
    LengthTag.Statement (.fclassS rd fs1) := isFull_append _ _ rfl

theorem LengthTag.fclassD (rd fs1 : Reg) :
    LengthTag.Statement (.fclassD rd fs1) := isFull_append _ _ rfl

theorem LengthTag.flw (fd rs1 : Reg) (imm : BitVec 12) :
    LengthTag.Statement (.flw fd rs1 imm) := isFull_append _ _ rfl

theorem LengthTag.fsw (fs2 rs1 : Reg) (imm : BitVec 12) :
    LengthTag.Statement (.fsw fs2 rs1 imm) := isFull_append _ _ rfl

theorem LengthTag.fcvtWS (rd fs1 : Reg) (rm : RmField) :
    LengthTag.Statement (.fcvtWS rd fs1 rm) := isFull_append _ _ rfl

theorem LengthTag.fcvtWuS (rd fs1 : Reg) (rm : RmField) :
    LengthTag.Statement (.fcvtWuS rd fs1 rm) := isFull_append _ _ rfl

theorem LengthTag.fcvtSW (fd rs1 : Reg) (rm : RmField) :
    LengthTag.Statement (.fcvtSW fd rs1 rm) := isFull_append _ _ rfl

theorem LengthTag.fcvtSWu (fd rs1 : Reg) (rm : RmField) :
    LengthTag.Statement (.fcvtSWu fd rs1 rm) := isFull_append _ _ rfl

theorem LengthTag.fmvXW (rd fs1 : Reg) :
    LengthTag.Statement (.fmvXW rd fs1) := isFull_append _ _ rfl

theorem LengthTag.fmvWX (fd rs1 : Reg) :
    LengthTag.Statement (.fmvWX fd rs1) := isFull_append _ _ rfl

theorem LengthTag.fld (fd rs1 : Reg) (imm : BitVec 12) :
    LengthTag.Statement (.fld fd rs1 imm) := isFull_append _ _ rfl

theorem LengthTag.fsd (fs2 rs1 : Reg) (imm : BitVec 12) :
    LengthTag.Statement (.fsd fs2 rs1 imm) := isFull_append _ _ rfl

theorem LengthTag.fcvtWD (rd fs1 : Reg) (rm : RmField) :
    LengthTag.Statement (.fcvtWD rd fs1 rm) := isFull_append _ _ rfl

theorem LengthTag.fcvtWuD (rd fs1 : Reg) (rm : RmField) :
    LengthTag.Statement (.fcvtWuD rd fs1 rm) := isFull_append _ _ rfl

theorem LengthTag.fcvtDW (fd rs1 : Reg) (rm : RmField) :
    LengthTag.Statement (.fcvtDW fd rs1 rm) := isFull_append _ _ rfl

theorem LengthTag.fcvtDWu (fd rs1 : Reg) (rm : RmField) :
    LengthTag.Statement (.fcvtDWu fd rs1 rm) := isFull_append _ _ rfl

theorem LengthTag.fcvtSD (fd fs1 : Reg) (rm : RmField) :
    LengthTag.Statement (.fcvtSD fd fs1 rm) := isFull_append _ _ rfl

theorem LengthTag.fcvtDS (fd fs1 : Reg) (rm : RmField) :
    LengthTag.Statement (.fcvtDS fd fs1 rm) := isFull_append _ _ rfl

theorem LengthTag.mul (rd rs1 rs2 : Reg) :
    LengthTag.Statement (.mul rd rs1 rs2) := isFull_append _ _ rfl

theorem LengthTag.mulh (rd rs1 rs2 : Reg) :
    LengthTag.Statement (.mulh rd rs1 rs2) := isFull_append _ _ rfl

theorem LengthTag.mulhsu (rd rs1 rs2 : Reg) :
    LengthTag.Statement (.mulhsu rd rs1 rs2) := isFull_append _ _ rfl

theorem LengthTag.mulhu (rd rs1 rs2 : Reg) :
    LengthTag.Statement (.mulhu rd rs1 rs2) := isFull_append _ _ rfl

theorem LengthTag.div (rd rs1 rs2 : Reg) :
    LengthTag.Statement (.div rd rs1 rs2) := isFull_append _ _ rfl

theorem LengthTag.divu (rd rs1 rs2 : Reg) :
    LengthTag.Statement (.divu rd rs1 rs2) := isFull_append _ _ rfl

theorem LengthTag.rem (rd rs1 rs2 : Reg) :
    LengthTag.Statement (.rem rd rs1 rs2) := isFull_append _ _ rfl

theorem LengthTag.remu (rd rs1 rs2 : Reg) :
    LengthTag.Statement (.remu rd rs1 rs2) := isFull_append _ _ rfl

theorem LengthTag.cAddi4spn (rd : CReg) (imm : BitVec 8) :
    LengthTag.Statement (.cAddi4spn rd imm) := isHalf_append _ _ (by decide)

theorem LengthTag.cFld (fd rs1 : CReg) (imm : BitVec 5) :
    LengthTag.Statement (.cFld fd rs1 imm) := isHalf_append _ _ (by decide)

theorem LengthTag.cLw (rd rs1 : CReg) (imm : BitVec 5) :
    LengthTag.Statement (.cLw rd rs1 imm) := isHalf_append _ _ (by decide)

theorem LengthTag.cFlw (fd rs1 : CReg) (imm : BitVec 5) :
    LengthTag.Statement (.cFlw fd rs1 imm) := isHalf_append _ _ (by decide)

theorem LengthTag.cFsd (fs2 rs1 : CReg) (imm : BitVec 5) :
    LengthTag.Statement (.cFsd fs2 rs1 imm) := isHalf_append _ _ (by decide)

theorem LengthTag.cSw (rs2 rs1 : CReg) (imm : BitVec 5) :
    LengthTag.Statement (.cSw rs2 rs1 imm) := isHalf_append _ _ (by decide)

theorem LengthTag.cFsw (fs2 rs1 : CReg) (imm : BitVec 5) :
    LengthTag.Statement (.cFsw fs2 rs1 imm) := isHalf_append _ _ (by decide)

theorem LengthTag.cNop :
    LengthTag.Statement (.cNop) := isHalf_append _ _ (by decide)

theorem LengthTag.cAddi (rd : Reg) (imm : BitVec 6) :
    LengthTag.Statement (.cAddi rd imm) := isHalf_append _ _ (by decide)

theorem LengthTag.cJal (imm : BitVec 11) :
    LengthTag.Statement (.cJal imm) := isHalf_append _ _ (by decide)

theorem LengthTag.cLi (rd : Reg) (imm : BitVec 6) :
    LengthTag.Statement (.cLi rd imm) := isHalf_append _ _ (by decide)

theorem LengthTag.cLui (rd : Reg) (imm : BitVec 6) :
    LengthTag.Statement (.cLui rd imm) := isHalf_append _ _ (by decide)

theorem LengthTag.cAddi16sp (imm : BitVec 6) :
    LengthTag.Statement (.cAddi16sp imm) := isHalf_append _ _ (by decide)

theorem LengthTag.cSrli (rd : CReg) (shamt : BitVec 5) :
    LengthTag.Statement (.cSrli rd shamt) := isHalf_append _ _ (by decide)

theorem LengthTag.cSrai (rd : CReg) (shamt : BitVec 5) :
    LengthTag.Statement (.cSrai rd shamt) := isHalf_append _ _ (by decide)

theorem LengthTag.cAndi (rd : CReg) (imm : BitVec 6) :
    LengthTag.Statement (.cAndi rd imm) := isHalf_append _ _ (by decide)

theorem LengthTag.cSub (rd rs2 : CReg) :
    LengthTag.Statement (.cSub rd rs2) := isHalf_append _ _ (by decide)

theorem LengthTag.cXor (rd rs2 : CReg) :
    LengthTag.Statement (.cXor rd rs2) := isHalf_append _ _ (by decide)

theorem LengthTag.cOr (rd rs2 : CReg) :
    LengthTag.Statement (.cOr rd rs2) := isHalf_append _ _ (by decide)

theorem LengthTag.cAnd (rd rs2 : CReg) :
    LengthTag.Statement (.cAnd rd rs2) := isHalf_append _ _ (by decide)

theorem LengthTag.cJ (imm : BitVec 11) :
    LengthTag.Statement (.cJ imm) := isHalf_append _ _ (by decide)

theorem LengthTag.cBeqz (rs1 : CReg) (imm : BitVec 8) :
    LengthTag.Statement (.cBeqz rs1 imm) := isHalf_append _ _ (by decide)

theorem LengthTag.cBnez (rs1 : CReg) (imm : BitVec 8) :
    LengthTag.Statement (.cBnez rs1 imm) := isHalf_append _ _ (by decide)

theorem LengthTag.cSlli (rd : Reg) (shamt : BitVec 5) :
    LengthTag.Statement (.cSlli rd shamt) := isHalf_append _ _ (by decide)

theorem LengthTag.cFldsp (fd : Reg) (imm : BitVec 6) :
    LengthTag.Statement (.cFldsp fd imm) := isHalf_append _ _ (by decide)

theorem LengthTag.cLwsp (rd : Reg) (imm : BitVec 6) :
    LengthTag.Statement (.cLwsp rd imm) := isHalf_append _ _ (by decide)

theorem LengthTag.cFlwsp (fd : Reg) (imm : BitVec 6) :
    LengthTag.Statement (.cFlwsp fd imm) := isHalf_append _ _ (by decide)

theorem LengthTag.cJr (rs1 : Reg) :
    LengthTag.Statement (.cJr rs1) := isHalf_append _ _ (by decide)

theorem LengthTag.cMv (rd rs2 : Reg) :
    LengthTag.Statement (.cMv rd rs2) := isHalf_append _ _ (by decide)

theorem LengthTag.cEbreak :
    LengthTag.Statement (.cEbreak) := isHalf_append _ _ (by decide)

theorem LengthTag.cJalr (rs1 : Reg) :
    LengthTag.Statement (.cJalr rs1) := isHalf_append _ _ (by decide)

theorem LengthTag.cAdd (rd rs2 : Reg) :
    LengthTag.Statement (.cAdd rd rs2) := isHalf_append _ _ (by decide)

theorem LengthTag.cFsdsp (fs2 : Reg) (imm : BitVec 6) :
    LengthTag.Statement (.cFsdsp fs2 imm) := isHalf_append _ _ (by decide)

theorem LengthTag.cSwsp (rs2 : Reg) (imm : BitVec 6) :
    LengthTag.Statement (.cSwsp rs2 imm) := isHalf_append _ _ (by decide)

theorem LengthTag.cFswsp (fs2 : Reg) (imm : BitVec 6) :
    LengthTag.Statement (.cFswsp fs2 imm) := isHalf_append _ _ (by decide)

theorem LengthTag.ecall :
    LengthTag.Statement (.ecall) := isFull_append _ _ rfl

theorem LengthTag.ebreak :
    LengthTag.Statement (.ebreak) := isFull_append _ _ rfl

theorem LengthTag.uret :
    LengthTag.Statement (.uret) := isFull_append _ _ rfl

theorem LengthTag.sret :
    LengthTag.Statement (.sret) := isFull_append _ _ rfl

theorem LengthTag.mret :
    LengthTag.Statement (.mret) := isFull_append _ _ rfl

theorem LengthTag.crrw (rd : Reg) (csr : BitVec 12) (rs1 : Reg) :
    LengthTag.Statement (.crrw rd csr rs1) := isFull_append _ _ rfl

theorem LengthTag.crrs (rd : Reg) (csr : BitVec 12) (rs1 : Reg) :
    LengthTag.Statement (.crrs rd csr rs1) := isFull_append _ _ rfl

theorem LengthTag.crrc (rd : Reg) (csr : BitVec 12) (rs1 : Reg) :
    LengthTag.Statement (.crrc rd csr rs1) := isFull_append _ _ rfl

theorem LengthTag.crrwi (rd : Reg) (csr : BitVec 12) (uimm : BitVec 5) :
    LengthTag.Statement (.crrwi rd csr uimm) := isFull_append _ _ rfl

theorem LengthTag.crrsi (rd : Reg) (csr : BitVec 12) (uimm : BitVec 5) :
    LengthTag.Statement (.crrsi rd csr uimm) := isFull_append _ _ rfl

theorem LengthTag.crrci (rd : Reg) (csr : BitVec 12) (uimm : BitVec 5) :
    LengthTag.Statement (.crrci rd csr uimm) := isFull_append _ _ rfl

end Sys2Proof.Laws
end

