-- ==== Sys2Proof/Machine/Asm.lean ====
section
/-! DEFINITION. Assembler syntax (`spec/30_encoding.md` R132 to R134, `spec/10_state.md` R32): the
mnemonic and the operands of each instruction, in the source's order. -/

namespace Sys2Proof.Machine

/-- An operand as it is written. -/
inductive AsmOperand where
  /-- `x<n>`. -/
  | x (r : Reg)
  /-- `f<n>`. -/
  | f (r : Reg)
  /-- A number. -/
  | imm (v : Int)
  /-- `imm(rs1)`. -/
  | mem (off : Int) (base : Reg)
  /-- A label, as its distance from the instruction. -/
  | label (off : Int)
  /-- A CSR number. -/
  | csr (n : BitVec 12)
deriving DecidableEq, Repr

/-- The names of an integer register (`spec/10_state.md` R32, R133). -/
def xRegNames (r : Reg) : List String :=
  let abi :=
    ["zero", "ra", "sp", "gp", "tp", "t0", "t1", "t2", "s0", "s1", "a0", "a1", "a2", "a3", "a4", "a5",
      "a6", "a7", "s2", "s3", "s4", "s5", "s6", "s7", "s8", "s9", "s10", "s11", "t3", "t4", "t5", "t6"]
  ("x" ++ toString r.toNat) :: (abi.getD r.toNat "") :: (if r = 8#5 then ["fp"] else [])

/-- The name of a floating-point register (`spec/10_state.md` R39). -/
def fRegName (r : Reg) : String := "f" ++ toString r.toNat

/-- The name of a CSR (`spec/10_state.md` R43 to R45). -/
def csrName (c : Csr) : String :=
  match c with
  | .fflags => "fflags"
  | .frm => "frm"
  | .fcsr => "fcsr"
  | .uepc => "uepc"
  | .sepc => "sepc"
  | .mepc => "mepc"
  | .mstatus => "mstatus"
  | .mtvec => "mtvec"
  | .mscratch => "mscratch"
  | .mcause => "mcause"
  | .mtval => "mtval"

/-- Mnemonic and operands (`spec/30_encoding.md` R132). In the 16-bit forms a number is the unscaled
field, as the source writes it; the source shows no syntax for `rm`. -/
def asm (i : Instr) : String × List AsmOperand :=
  match i with
  | .lb rd rs1 imm => ("lb", [.x rd, .mem imm.toInt rs1])
  | .lh rd rs1 imm => ("lh", [.x rd, .mem imm.toInt rs1])
  | .lw rd rs1 imm => ("lw", [.x rd, .mem imm.toInt rs1])
  | .lbu rd rs1 imm => ("lbu", [.x rd, .mem imm.toInt rs1])
  | .lhu rd rs1 imm => ("lhu", [.x rd, .mem imm.toInt rs1])
  | .addi rd rs1 imm => ("addi", [.x rd, .x rs1, .imm imm.toInt])
  | .slli rd rs1 shamt => ("slli", [.x rd, .x rs1, .imm shamt.toNat])
  | .slti rd rs1 imm => ("slti", [.x rd, .x rs1, .imm imm.toInt])
  | .sltiu rd rs1 imm => ("sltiu", [.x rd, .x rs1, .imm imm.toInt])
  | .xori rd rs1 imm => ("xori", [.x rd, .x rs1, .imm imm.toInt])
  | .srli rd rs1 shamt => ("srli", [.x rd, .x rs1, .imm shamt.toNat])
  | .srai rd rs1 shamt => ("srai", [.x rd, .x rs1, .imm shamt.toNat])
  | .ori rd rs1 imm => ("ori", [.x rd, .x rs1, .imm imm.toInt])
  | .andi rd rs1 imm => ("andi", [.x rd, .x rs1, .imm imm.toInt])
  | .auipc rd upimm => ("auipc", [.x rd, .imm upimm.toNat])
  | .sb rs2 rs1 imm => ("sb", [.x rs2, .mem imm.toInt rs1])
  | .sh rs2 rs1 imm => ("sh", [.x rs2, .mem imm.toInt rs1])
  | .sw rs2 rs1 imm => ("sw", [.x rs2, .mem imm.toInt rs1])
  | .add rd rs1 rs2 => ("add", [.x rd, .x rs1, .x rs2])
  | .sub rd rs1 rs2 => ("sub", [.x rd, .x rs1, .x rs2])
  | .sll rd rs1 rs2 => ("sll", [.x rd, .x rs1, .x rs2])
  | .slt rd rs1 rs2 => ("slt", [.x rd, .x rs1, .x rs2])
  | .sltu rd rs1 rs2 => ("sltu", [.x rd, .x rs1, .x rs2])
  | .xor rd rs1 rs2 => ("xor", [.x rd, .x rs1, .x rs2])
  | .srl rd rs1 rs2 => ("srl", [.x rd, .x rs1, .x rs2])
  | .sra rd rs1 rs2 => ("sra", [.x rd, .x rs1, .x rs2])
  | .or rd rs1 rs2 => ("or", [.x rd, .x rs1, .x rs2])
  | .and rd rs1 rs2 => ("and", [.x rd, .x rs1, .x rs2])
  | .lui rd upimm => ("lui", [.x rd, .imm upimm.toNat])
  | .beq rs1 rs2 imm => ("beq", [.x rs1, .x rs2, .label (2 * imm.toInt)])
  | .bne rs1 rs2 imm => ("bne", [.x rs1, .x rs2, .label (2 * imm.toInt)])
  | .blt rs1 rs2 imm => ("blt", [.x rs1, .x rs2, .label (2 * imm.toInt)])
  | .bge rs1 rs2 imm => ("bge", [.x rs1, .x rs2, .label (2 * imm.toInt)])
  | .bltu rs1 rs2 imm => ("bltu", [.x rs1, .x rs2, .label (2 * imm.toInt)])
  | .bgeu rs1 rs2 imm => ("bgeu", [.x rs1, .x rs2, .label (2 * imm.toInt)])
  | .jalr rd rs1 imm => ("jalr", [.x rd, .x rs1, .imm imm.toInt])
  | .jal rd imm => ("jal", [.x rd, .label (2 * imm.toInt)])
  | .ld rd rs1 imm => ("ld", [.x rd, .mem imm.toInt rs1])
  | .lwu rd rs1 imm => ("lwu", [.x rd, .mem imm.toInt rs1])
  | .addiw rd rs1 imm => ("addiw", [.x rd, .x rs1, .imm imm.toInt])
  | .slliw rd rs1 shamt => ("slliw", [.x rd, .x rs1, .imm shamt.toNat])
  | .srliw rd rs1 shamt => ("srliw", [.x rd, .x rs1, .imm shamt.toNat])
  | .sraiw rd rs1 shamt => ("sraiw", [.x rd, .x rs1, .imm shamt.toNat])
  | .sd rs2 rs1 imm => ("sd", [.x rs2, .mem imm.toInt rs1])
  | .addw rd rs1 rs2 => ("addw", [.x rd, .x rs1, .x rs2])
  | .subw rd rs1 rs2 => ("subw", [.x rd, .x rs1, .x rs2])
  | .sllw rd rs1 rs2 => ("sllw", [.x rd, .x rs1, .x rs2])
  | .srlw rd rs1 rs2 => ("srlw", [.x rd, .x rs1, .x rs2])
  | .sraw rd rs1 rs2 => ("sraw", [.x rd, .x rs1, .x rs2])
  | .fmaddS fd fs1 fs2 fs3 _ => ("fmadd.s", [.f fd, .f fs1, .f fs2, .f fs3])
  | .fmaddD fd fs1 fs2 fs3 _ => ("fmadd.d", [.f fd, .f fs1, .f fs2, .f fs3])
  | .fmsubS fd fs1 fs2 fs3 _ => ("fmsub.s", [.f fd, .f fs1, .f fs2, .f fs3])
  | .fmsubD fd fs1 fs2 fs3 _ => ("fmsub.d", [.f fd, .f fs1, .f fs2, .f fs3])
  | .fnmsubS fd fs1 fs2 fs3 _ => ("fnmsub.s", [.f fd, .f fs1, .f fs2, .f fs3])
  | .fnmsubD fd fs1 fs2 fs3 _ => ("fnmsub.d", [.f fd, .f fs1, .f fs2, .f fs3])
  | .fnmaddS fd fs1 fs2 fs3 _ => ("fnmadd.s", [.f fd, .f fs1, .f fs2, .f fs3])
  | .fnmaddD fd fs1 fs2 fs3 _ => ("fnmadd.d", [.f fd, .f fs1, .f fs2, .f fs3])
  | .faddS fd fs1 fs2 _ => ("fadd.s", [.f fd, .f fs1, .f fs2])
  | .faddD fd fs1 fs2 _ => ("fadd.d", [.f fd, .f fs1, .f fs2])
  | .fsubS fd fs1 fs2 _ => ("fsub.s", [.f fd, .f fs1, .f fs2])
  | .fsubD fd fs1 fs2 _ => ("fsub.d", [.f fd, .f fs1, .f fs2])
  | .fmulS fd fs1 fs2 _ => ("fmul.s", [.f fd, .f fs1, .f fs2])
  | .fmulD fd fs1 fs2 _ => ("fmul.d", [.f fd, .f fs1, .f fs2])
  | .fdivS fd fs1 fs2 _ => ("fdiv.s", [.f fd, .f fs1, .f fs2])
  | .fdivD fd fs1 fs2 _ => ("fdiv.d", [.f fd, .f fs1, .f fs2])
  | .fsqrtS fd fs1 _ => ("fsqrt.s", [.f fd, .f fs1])
  | .fsqrtD fd fs1 _ => ("fsqrt.d", [.f fd, .f fs1])
  | .fsgnjS fd fs1 fs2 => ("fsgnj.s", [.f fd, .f fs1, .f fs2])
  | .fsgnjD fd fs1 fs2 => ("fsgnj.d", [.f fd, .f fs1, .f fs2])
  | .fsgnjnS fd fs1 fs2 => ("fsgnjn.s", [.f fd, .f fs1, .f fs2])
  | .fsgnjnD fd fs1 fs2 => ("fsgnjn.d", [.f fd, .f fs1, .f fs2])
  | .fsgnjxS fd fs1 fs2 => ("fsgnjx.s", [.f fd, .f fs1, .f fs2])
  | .fsgnjxD fd fs1 fs2 => ("fsgnjx.d", [.f fd, .f fs1, .f fs2])
  | .fminS fd fs1 fs2 => ("fmin.s", [.f fd, .f fs1, .f fs2])
  | .fminD fd fs1 fs2 => ("fmin.d", [.f fd, .f fs1, .f fs2])
  | .fmaxS fd fs1 fs2 => ("fmax.s", [.f fd, .f fs1, .f fs2])
  | .fmaxD fd fs1 fs2 => ("fmax.d", [.f fd, .f fs1, .f fs2])
  | .feqS rd fs1 fs2 => ("feq.s", [.x rd, .f fs1, .f fs2])
  | .feqD rd fs1 fs2 => ("feq.d", [.x rd, .f fs1, .f fs2])
  | .fltS rd fs1 fs2 => ("flt.s", [.x rd, .f fs1, .f fs2])
  | .fltD rd fs1 fs2 => ("flt.d", [.x rd, .f fs1, .f fs2])
  | .fleS rd fs1 fs2 => ("fle.s", [.x rd, .f fs1, .f fs2])
  | .fleD rd fs1 fs2 => ("fle.d", [.x rd, .f fs1, .f fs2])
  | .fclassS rd fs1 => ("fclass.s", [.x rd, .f fs1])
  | .fclassD rd fs1 => ("fclass.d", [.x rd, .f fs1])
  | .flw fd rs1 imm => ("flw", [.f fd, .mem imm.toInt rs1])
  | .fsw fs2 rs1 imm => ("fsw", [.f fs2, .mem imm.toInt rs1])
  | .fcvtWS rd fs1 _ => ("fcvt.w.s", [.x rd, .f fs1])
  | .fcvtWuS rd fs1 _ => ("fcvt.wu.s", [.x rd, .f fs1])
  | .fcvtSW fd rs1 _ => ("fcvt.s.w", [.f fd, .x rs1])
  | .fcvtSWu fd rs1 _ => ("fcvt.s.wu", [.f fd, .x rs1])
  | .fmvXW rd fs1 => ("fmv.x.w", [.x rd, .f fs1])
  | .fmvWX fd rs1 => ("fmv.w.x", [.f fd, .x rs1])
  | .fld fd rs1 imm => ("fld", [.f fd, .mem imm.toInt rs1])
  | .fsd fs2 rs1 imm => ("fsd", [.f fs2, .mem imm.toInt rs1])
  | .fcvtWD rd fs1 _ => ("fcvt.w.d", [.x rd, .f fs1])
  | .fcvtWuD rd fs1 _ => ("fcvt.wu.d", [.x rd, .f fs1])
  | .fcvtDW fd rs1 _ => ("fcvt.d.w", [.f fd, .x rs1])
  | .fcvtDWu fd rs1 _ => ("fcvt.d.wu", [.f fd, .x rs1])
  | .fcvtSD fd fs1 _ => ("fcvt.s.d", [.f fd, .f fs1])
  | .fcvtDS fd fs1 _ => ("fcvt.d.s", [.f fd, .f fs1])
  | .mul rd rs1 rs2 => ("mul", [.x rd, .x rs1, .x rs2])
  | .mulh rd rs1 rs2 => ("mulh", [.x rd, .x rs1, .x rs2])
  | .mulhsu rd rs1 rs2 => ("mulhsu", [.x rd, .x rs1, .x rs2])
  | .mulhu rd rs1 rs2 => ("mulhu", [.x rd, .x rs1, .x rs2])
  | .div rd rs1 rs2 => ("div", [.x rd, .x rs1, .x rs2])
  | .divu rd rs1 rs2 => ("divu", [.x rd, .x rs1, .x rs2])
  | .rem rd rs1 rs2 => ("rem", [.x rd, .x rs1, .x rs2])
  | .remu rd rs1 rs2 => ("remu", [.x rd, .x rs1, .x rs2])
  | .cAddi4spn rd imm => ("c.addi4spn", [.x rd.reg, .x 2#5, .imm imm.toNat])
  | .cFld fd rs1 imm => ("c.fld", [.f fd.reg, .mem imm.toNat rs1.reg])
  | .cLw rd rs1 imm => ("c.lw", [.x rd.reg, .mem imm.toNat rs1.reg])
  | .cFlw fd rs1 imm => ("c.flw", [.f fd.reg, .mem imm.toNat rs1.reg])
  | .cFsd fs2 rs1 imm => ("c.fsd", [.f fs2.reg, .mem imm.toNat rs1.reg])
  | .cSw rs2 rs1 imm => ("c.sw", [.x rs2.reg, .mem imm.toNat rs1.reg])
  | .cFsw fs2 rs1 imm => ("c.fsw", [.f fs2.reg, .mem imm.toNat rs1.reg])
  | .cNop => ("c.nop", [])
  | .cAddi rd imm => ("c.addi", [.x rd, .imm imm.toInt])
  | .cJal imm => ("c.jal", [.label (2 * imm.toInt)])
  | .cLi rd imm => ("c.li", [.x rd, .imm imm.toInt])
  | .cLui rd imm => ("c.lui", [.x rd, .imm imm.toInt])
  | .cAddi16sp imm => ("c.addi16sp", [.x 2#5, .imm imm.toInt])
  | .cSrli rd shamt => ("c.srli", [.x rd.reg, .imm shamt.toNat])
  | .cSrai rd shamt => ("c.srai", [.x rd.reg, .imm shamt.toNat])
  | .cAndi rd imm => ("c.andi", [.x rd.reg, .imm imm.toInt])
  | .cSub rd rs2 => ("c.sub", [.x rd.reg, .x rs2.reg])
  | .cXor rd rs2 => ("c.xor", [.x rd.reg, .x rs2.reg])
  | .cOr rd rs2 => ("c.or", [.x rd.reg, .x rs2.reg])
  | .cAnd rd rs2 => ("c.and", [.x rd.reg, .x rs2.reg])
  | .cJ imm => ("c.j", [.label (2 * imm.toInt)])
  | .cBeqz rs1 imm => ("c.beqz", [.x rs1.reg, .label (2 * imm.toInt)])
  | .cBnez rs1 imm => ("c.bnez", [.x rs1.reg, .label (2 * imm.toInt)])
  | .cSlli rd shamt => ("c.slli", [.x rd, .imm shamt.toNat])
  | .cFldsp fd imm => ("c.fldsp", [.f fd, .imm imm.toNat])
  | .cLwsp rd imm => ("c.lwsp", [.x rd, .imm imm.toNat])
  | .cFlwsp fd imm => ("c.flwsp", [.f fd, .imm imm.toNat])
  | .cJr rs1 => ("c.jr", [.x rs1])
  | .cMv rd rs2 => ("c.mv", [.x rd, .x rs2])
  | .cEbreak => ("c.ebreak", [])
  | .cJalr rs1 => ("c.jalr", [.x rs1])
  | .cAdd rd rs2 => ("c.add", [.x rd, .x rs2])
  | .cFsdsp fs2 imm => ("c.fsdsp", [.f fs2, .imm imm.toNat])
  | .cSwsp rs2 imm => ("c.swsp", [.x rs2, .imm imm.toNat])
  | .cFswsp fs2 imm => ("c.fswsp", [.f fs2, .imm imm.toNat])
  | .ecall => ("ecall", [])
  | .ebreak => ("ebreak", [])
  | .uret => ("uret", [])
  | .sret => ("sret", [])
  | .mret => ("mret", [])
  | .crrw rd csr rs1 => ("crrw", [.x rd, .csr csr, .x rs1])
  | .crrs rd csr rs1 => ("crrs", [.x rd, .csr csr, .x rs1])
  | .crrc rd csr rs1 => ("crrc", [.x rd, .csr csr, .x rs1])
  | .crrwi rd csr uimm => ("crrwi", [.x rd, .csr csr, .imm uimm.toNat])
  | .crrsi rd csr uimm => ("crrsi", [.x rd, .csr csr, .imm uimm.toNat])
  | .crrci rd csr uimm => ("crrci", [.x rd, .csr csr, .imm uimm.toNat])

/-- The mnemonic of an instruction. -/
def mnemonic (i : Instr) : String := (asm i).1

end Sys2Proof.Machine
end

