-- ==== Sys2Proof/Tests/Slice0.lean ====
section
/-! SUPPORT. The model's own tests: refused terms, decoding of every row, one step of every instruction
(expected results from the vectors `V<n>` of `spec/95_test_vectors.md` and `spec/96_test_vectors_2.md`, or
from the rule named), and witnesses of the hypotheses of the statements. -/

namespace Sys2Proof.Tests

set_option Elab.async false

open Sys2Proof Sys2Proof.Machine

/-! ## The well-formedness check: one refused term for each reason -/

/-- `RV32` without `C`. -/
def isaNoC : Isa := { Isa.rv32ref with base := .rv32 false }

/-- `RV32` with no extension. -/
def isaBare : Isa := { base := .rv32 false, m := false, fp := .none, s := false }

theorem test_wf_needsXlen64 :
    (Instr.addw 1#5 2#5 3#5).illFormed Isa.rv32ref = some .needsXlen64 := by decide

theorem test_wf_needsM : (Instr.mul 1#5 2#5 3#5).illFormed isaBare = some .needsM := by decide

theorem test_wf_needsF : (Instr.faddS 1#5 2#5 3#5 .rne).illFormed isaBare = some .needsF := by decide

theorem test_wf_needsD :
    (Instr.faddD 1#5 2#5 3#5 .rne).illFormed { Isa.rv32ref with fp := .f } = some .needsD := by decide

theorem test_wf_needsC : Instr.cNop.illFormed isaNoC = some .needsC := by decide

theorem test_wf_needsS : Instr.ecall.illFormed isaBare = some .needsS := by decide

theorem test_wf_shamtTooLarge :
    (Instr.slli 1#5 2#5 32#6).illFormed Isa.rv32ref = some .shamtTooLarge := by decide

theorem test_wf_zeroImmediate :
    (Instr.cLui 1#5 0#6).illFormed Isa.rv32ref = some .zeroImmediate := by decide

theorem test_wf_reservedRegister :
    (Instr.cLwsp 0#5 1#6).illFormed Isa.rv32ref = some .reservedRegister := by decide

theorem test_wf_nopForm : (Instr.cAddi 0#5 0#6).illFormed Isa.rv32ref = some .nopForm := by decide

/-! ## Decoding: a word of every row, its fields laid out as the row's encoding says -/

/-- The decoder reads the instruction from the word. -/
def decodesTo (p : Nat × Nat × Instr) : Bool := decodeTableWord p.1 p.2.1 == some p.2.2

theorem test_decode_rv32i :
    [(32, 0x01a60903, (.lb 18#5 12#5 0x1a#12)),
     (32, 0x937a9903, (.lh 18#5 21#5 0x937#12)),
     (32, 0xc73aa083, (.lw 1#5 21#5 0xc73#12)),
     (32, 0xd0cb4503, (.lbu 10#5 22#5 0xd0c#12)),
     (32, 0x92655a03, (.lhu 20#5 10#5 0x926#12)),
     (32, 0x353f0c13, (.addi 24#5 30#5 0x353#12)),
     (32, 0x01d99293, (.slli 5#5 19#5 29#6)),
     (32, 0x01131993, (.slli 19#5 6#5 17#6)),
     (32, 0xa8312413, (.slti 8#5 2#5 0xa83#12)),
     (32, 0x102d3b13, (.sltiu 22#5 26#5 0x102#12)),
     (32, 0xfeb44193, (.xori 3#5 8#5 0xfeb#12)),
     (32, 0x001fdc93, (.srli 25#5 31#5 1#6)),
     (32, 0x00825213, (.srli 4#5 4#5 8#6)),
     (32, 0x4052d513, (.srai 10#5 5#5 5#6)),
     (32, 0x40685a93, (.srai 21#5 16#5 6#6)),
     (32, 0xce596813, (.ori 16#5 18#5 0xce5#12)),
     (32, 0xe95bf693, (.andi 13#5 23#5 0xe95#12)),
     (32, 0xa4d5fa97, (.auipc 21#5 0xa4d5f#20)),
     (32, 0x0de70123, (.sb 30#5 14#5 0xc2#12)),
     (32, 0x6d9f1023, (.sh 25#5 30#5 0x6c0#12)),
     (32, 0x8f322ea3, (.sw 19#5 4#5 0x8fd#12)),
     (32, 0x00d882b3, (.add 5#5 17#5 13#5))].all decodesTo = true := by
  decide +kernel

theorem test_decode_rv32i_2 :
    [(32, 0x411987b3, (.sub 15#5 19#5 17#5)),
     (32, 0x00d99bb3, (.sll 23#5 19#5 13#5)),
     (32, 0x00532833, (.slt 16#5 6#5 5#5)),
     (32, 0x01efb5b3, (.sltu 11#5 31#5 30#5)),
     (32, 0x00d54d33, (.xor 26#5 10#5 13#5)),
     (32, 0x01795c33, (.srl 24#5 18#5 23#5)),
     (32, 0x40a856b3, (.sra 13#5 16#5 10#5)),
     (32, 0x005f63b3, (.or 7#5 30#5 5#5)),
     (32, 0x017efbb3, (.and 23#5 29#5 23#5)),
     (32, 0x6a100bb7, (.lui 23#5 0x6a100#20)),
     (32, 0xe4ca07e3, (.beq 20#5 12#5 0xf27#12)),
     (32, 0x48809a63, (.bne 1#5 8#5 0x24a#12)),
     (32, 0xc1b9c663, (.blt 19#5 27#5 0xa06#12)),
     (32, 0x2f1f5a63, (.bge 30#5 17#5 0x17a#12)),
     (32, 0x8ca96663, (.bltu 18#5 10#5 0x866#12)),
     (32, 0x1596f863, (.bgeu 13#5 25#5 0xa8#12)),
     (32, 0x14630a67, (.jalr 20#5 6#5 0x146#12)),
     (32, 0x6eb92f6f, (.jal 30#5 0x49775#20))].all decodesTo = true := by
  decide +kernel

theorem test_decode_rv64i :
    [(32, 0x8a9f3283, (.ld 5#5 30#5 0x8a9#12)),
     (32, 0x0af66183, (.lwu 3#5 12#5 0xaf#12)),
     (32, 0x031d001b, (.addiw 0#5 26#5 0x31#12)),
     (32, 0x008c981b, (.slliw 16#5 25#5 8#5)),
     (32, 0x01e4521b, (.srliw 4#5 8#5 30#5)),
     (32, 0x406bde9b, (.sraiw 29#5 23#5 6#5)),
     (32, 0xf7bf3723, (.sd 27#5 30#5 0xf6e#12)),
     (32, 0x01ff87bb, (.addw 15#5 31#5 31#5)),
     (32, 0x4152803b, (.subw 0#5 5#5 21#5)),
     (32, 0x01e8173b, (.sllw 14#5 16#5 30#5)),
     (32, 0x0129d6bb, (.srlw 13#5 19#5 18#5)),
     (32, 0x40c4dcbb, (.sraw 25#5 9#5 12#5))].all decodesTo = true := by
  decide +kernel

theorem test_decode_rvfd :
    [(32, 0x00dc4ec3, (.fmaddS 29#5 24#5 13#5 0#5 .rmm)),
     (32, 0x4ba195c3, (.fmaddD 11#5 3#5 26#5 9#5 .rtz)),
     (32, 0x28204547, (.fmsubS 10#5 0#5 2#5 5#5 .rmm)),
     (32, 0xaa7035c7, (.fmsubD 11#5 0#5 7#5 21#5 .rup)),
     (32, 0xd865f74b, (.fnmsubS 14#5 11#5 6#5 27#5 .dyn)),
     (32, 0x23e01c4b, (.fnmsubD 24#5 0#5 30#5 4#5 .rtz)),
     (32, 0x312e234f, (.fnmaddS 6#5 28#5 18#5 6#5 .rdn)),
     (32, 0x1ab0414f, (.fnmaddD 2#5 0#5 11#5 3#5 .rmm)),
     (32, 0x01e621d3, (.faddS 3#5 12#5 30#5 .rdn)),
     (32, 0x03d223d3, (.faddD 7#5 4#5 29#5 .rdn)),
     (32, 0x0986f0d3, (.fsubS 1#5 13#5 24#5 .dyn)),
     (32, 0x0b7097d3, (.fsubD 15#5 1#5 23#5 .rtz)),
     (32, 0x11933fd3, (.fmulS 31#5 6#5 25#5 .rup)),
     (32, 0x130dab53, (.fmulD 22#5 27#5 16#5 .rdn)),
     (32, 0x180d29d3, (.fdivS 19#5 26#5 0#5 .rdn)),
     (32, 0x1aa143d3, (.fdivD 7#5 2#5 10#5 .rmm)),
     (32, 0x58060cd3, (.fsqrtS 25#5 12#5 .rne)),
     (32, 0x5a062b53, (.fsqrtD 22#5 12#5 .rdn))].all decodesTo = true := by
  decide +kernel

theorem test_decode_rvfd_2 :
    [(32, 0x208c05d3, (.fsgnjS 11#5 24#5 8#5)),
     (32, 0x222a8c53, (.fsgnjD 24#5 21#5 2#5)),
     (32, 0x20ac1f53, (.fsgnjnS 30#5 24#5 10#5)),
     (32, 0x23d81053, (.fsgnjnD 0#5 16#5 29#5)),
     (32, 0x20232c53, (.fsgnjxS 24#5 6#5 2#5)),
     (32, 0x239321d3, (.fsgnjxD 3#5 6#5 25#5)),
     (32, 0x294600d3, (.fminS 1#5 12#5 20#5)),
     (32, 0x2b7380d3, (.fminD 1#5 7#5 23#5)),
     (32, 0x289f9c53, (.fmaxS 24#5 31#5 9#5)),
     (32, 0x2a559653, (.fmaxD 12#5 11#5 5#5)),
     (32, 0xa05da8d3, (.feqS 17#5 27#5 5#5)),
     (32, 0xa225a8d3, (.feqD 17#5 11#5 2#5)),
     (32, 0xa0549953, (.fltS 18#5 9#5 5#5)),
     (32, 0xa20710d3, (.fltD 1#5 14#5 0#5)),
     (32, 0xa06f8bd3, (.fleS 23#5 31#5 6#5)),
     (32, 0xa2008153, (.fleD 2#5 1#5 0#5)),
     (32, 0xe00413d3, (.fclassS 7#5 8#5)),
     (32, 0xe2051dd3, (.fclassD 27#5 10#5))].all decodesTo = true := by
  decide +kernel

theorem test_decode_rvfd_3 :
    [(32, 0x78252c07, (.flw 24#5 10#5 0x782#12)),
     (32, 0x1e7a2ca7, (.fsw 7#5 20#5 0x1f9#12)),
     (32, 0xc0079053, (.fcvtWS 0#5 15#5 .rtz)),
     (32, 0xc01092d3, (.fcvtWuS 5#5 1#5 .rtz)),
     (32, 0xd00b42d3, (.fcvtSW 5#5 22#5 .rmm)),
     (32, 0xd01292d3, (.fcvtSWu 5#5 5#5 .rtz)),
     (32, 0xe0008cd3, (.fmvXW 25#5 1#5)),
     (32, 0xf00487d3, (.fmvWX 15#5 9#5)),
     (32, 0x42643907, (.fld 18#5 8#5 0x426#12)),
     (32, 0x141bb3a7, (.fsd 1#5 23#5 0x147#12)),
     (32, 0xc20b1f53, (.fcvtWD 30#5 22#5 .rtz)),
     (32, 0xc21f38d3, (.fcvtWuD 17#5 30#5 .rup)),
     (32, 0xd207cf53, (.fcvtDW 30#5 15#5 .rmm)),
     (32, 0xd2112253, (.fcvtDWu 4#5 2#5 .rdn)),
     (32, 0x401bc353, (.fcvtSD 6#5 23#5 .rmm)),
     (32, 0x42040153, (.fcvtDS 2#5 8#5 .rne))].all decodesTo = true := by
  decide +kernel

theorem test_decode_rvm :
    [(32, 0x02ec83b3, (.mul 7#5 25#5 14#5)),
     (32, 0x03d39733, (.mulh 14#5 7#5 29#5)),
     (32, 0x0379a1b3, (.mulhsu 3#5 19#5 23#5)),
     (32, 0x02c6b3b3, (.mulhu 7#5 13#5 12#5)),
     (32, 0x02d3c1b3, (.div 3#5 7#5 13#5)),
     (32, 0x02565033, (.divu 0#5 12#5 5#5)),
     (32, 0x03b6e9b3, (.rem 19#5 13#5 27#5)),
     (32, 0x026f77b3, (.remu 15#5 30#5 6#5))].all decodesTo = true := by
  decide +kernel

theorem test_decode_rvc :
    [(16, 0x0228, (.cAddi4spn 2#3 0x42#8)),
     (16, 0x3338, (.cFld 6#3 6#3 12#5)),
     (16, 0x55fc, (.cLw 7#3 3#3 27#5)),
     (16, 0x74c0, (.cFlw 0#3 1#3 11#5)),
     (16, 0xb0c0, (.cFsd 0#3 1#3 20#5)),
     (16, 0xd4a0, (.cSw 0#3 1#3 26#5)),
     (16, 0xf860, (.cFsw 0#3 0#3 29#5)),
     (16, 0x0001, .cNop),
     (16, 0x1d09, (.cAddi 26#5 34#6)),
     (16, 0x3e51, (.cJal 0x5ca#11)),
     (16, 0x47b9, (.cLi 15#5 14#6)),
     (16, 0x6089, (.cLui 1#5 2#6)),
     (16, 0x7119, (.cAddi16sp 56#6)),
     (16, 0x8231, (.cSrli 4#3 12#5)),
     (16, 0x85f5, (.cSrai 3#3 29#5)),
     (16, 0x8b3d, (.cAndi 6#3 15#6)),
     (16, 0x8f11, (.cSub 6#3 4#3)),
     (16, 0x8da9, (.cXor 3#3 2#3))].all decodesTo = true := by
  decide +kernel

theorem test_decode_rvc_2 :
    [(16, 0x8d49, (.cOr 2#3 2#3)),
     (16, 0x8ff9, (.cAnd 7#3 6#3)),
     (16, 0xae7d, (.cJ 0x1df#11)),
     (16, 0xcb65, (.cBeqz 6#3 0x78#8)),
     (16, 0xe0d9, (.cBnez 1#3 0x43#8)),
     (16, 0x029a, (.cSlli 5#5 6#5)),
     (16, 0x32ba, (.cFldsp 5#5 53#6)),
     (16, 0x4fce, (.cLwsp 31#5 52#6)),
     (16, 0x60fe, (.cFlwsp 1#5 55#6)),
     (16, 0x8c02, (.cJr 24#5)),
     (16, 0x87be, (.cMv 15#5 15#5)),
     (16, 0x9002, .cEbreak),
     (16, 0x9802, (.cJalr 16#5)),
     (16, 0x900e, (.cAdd 0#5 3#5)),
     (16, 0xbaca, (.cFsdsp 18#5 46#6)),
     (16, 0xc5ae, (.cSwsp 11#5 50#6)),
     (16, 0xed1a, (.cFswsp 6#5 38#6))].all decodesTo = true := by
  decide +kernel

theorem test_decode_priv :
    [(32, 0x00000073, .ecall),
     (32, 0x00100073, .ebreak),
     (32, 0x00200073, .uret),
     (32, 0x10200073, .sret),
     (32, 0x30200073, .mret),
     (32, 0x03909bf3, (.crrw 23#5 0x39#12 1#5)),
     (32, 0x34dd2bf3, (.crrs 23#5 0x34d#12 26#5)),
     (32, 0xd0be3e73, (.crrc 28#5 0xd0b#12 28#5)),
     (32, 0x5ce05cf3, (.crrwi 25#5 0x5ce#12 0#5)),
     (32, 0x3b53ef73, (.crrsi 30#5 0x3b5#12 7#5)),
     (32, 0xf170f673, (.crrci 12#5 0xf17#12 1#5))].all decodesTo = true := by
  decide +kernel

/-! ## One step of every instruction -/

/-- The reference machine `RV32`. -/
def rv32 : Config := Config.reference

/-- The reference machine `RV64`. -/
def rv64 : Config := Config.reference64

/-- `RV32` without `C`: the machine of the vectors marked `RV32`. -/
def rv32NoC : Config := Config.standard isaNoC .fault .m

/-- `RV32` with the trap layer and the modes {M}, {M,U}, {M,S,U}. -/
def layeredM : Config := Config.standard isaNoC .mmode .m

def layeredMU : Config := Config.standard isaNoC .mmode .mu

def layeredMSU : Config := Config.standard isaNoC .mmode .msu

/-- `FNM_CONVENTION = ratified`. -/
def ratified : Config := { rv32NoC with fnm := .ratified }

/-- A small state: `pc` at 0x1000, flags clear, some registers, some bytes of memory. -/
def machine (c : Config) (xs fs : List (Reg × Word)) (bytes : List (Nat × List Byte)) : State :=
  let l := { Launch.chosen with fflags := 0#5, frm := 0#3, fill := 0#8, image := bytes }
  let s := xs.foldl (fun s p => s.writeX p.1 p.2) (State.resetWith c l)
  fs.foldl (fun s p => s.writeF p.1 p.2) s

/-- The instruction goes on to a state with the property. -/
def gives (i : Instr) (s : State) (p : State → Bool) : Bool :=
  match exec i s with
  | .next t => p t
  | .fault _ => false
  | .refused _ => false

/-- V1. -/
theorem test_lb :
    gives (.lb 10#5 11#5 0x0#12) (machine rv32NoC [(11#5, 0x2000#64)] [] [(0x2000, [0x80#8, 0xff#8, 0x7f#8, 0x01#8, 0xef#8, 0xcd#8, 0xab#8, 0x89#8])])
      (fun t => t.readX 10#5 == 0xffffff80#64 && t.pc == 0x1004#64) = true := by
  decide +kernel

/-- V3. -/
theorem test_lh :
    gives (.lh 10#5 11#5 0x0#12) (machine rv32NoC [(11#5, 0x2000#64)] [] [(0x2000, [0x80#8, 0xff#8, 0x7f#8, 0x01#8, 0xef#8, 0xcd#8, 0xab#8, 0x89#8])])
      (fun t => t.readX 10#5 == 0xffffff80#64 && t.pc == 0x1004#64) = true := by
  decide +kernel

/-- V6. -/
theorem test_lw :
    gives (.lw 10#5 11#5 0x0#12) (machine rv32NoC [(11#5, 0x2000#64)] [] [(0x2000, [0x80#8, 0xff#8, 0x7f#8, 0x01#8, 0xef#8, 0xcd#8, 0xab#8, 0x89#8])])
      (fun t => t.readX 10#5 == 0x17fff80#64 && t.pc == 0x1004#64) = true := by
  decide +kernel

/-- V16. -/
theorem test_lw_2 :
    gives (.lw 10#5 11#5 0x4#12) (machine rv32NoC [(11#5, 0xfffffffc#64)] [] [(0x0, [0x88#8, 0x77#8, 0x66#8, 0x55#8])])
      (fun t => t.readX 10#5 == 0x55667788#64 && t.pc == 0x1004#64) = true := by
  decide +kernel

/-- V2. -/
theorem test_lbu :
    gives (.lbu 10#5 11#5 0x0#12) (machine rv32NoC [(11#5, 0x2000#64)] [] [(0x2000, [0x80#8, 0xff#8, 0x7f#8, 0x01#8, 0xef#8, 0xcd#8, 0xab#8, 0x89#8])])
      (fun t => t.readX 10#5 == 0x80#64 && t.pc == 0x1004#64) = true := by
  decide +kernel

/-- V4. -/
theorem test_lhu :
    gives (.lhu 10#5 11#5 0x0#12) (machine rv32NoC [(11#5, 0x2000#64)] [] [(0x2000, [0x80#8, 0xff#8, 0x7f#8, 0x01#8, 0xef#8, 0xcd#8, 0xab#8, 0x89#8])])
      (fun t => t.readX 10#5 == 0xff80#64 && t.pc == 0x1004#64) = true := by
  decide +kernel

/-- V25. -/
theorem test_addi :
    gives (.addi 10#5 11#5 0xfff#12) (machine rv32NoC [(11#5, 0x0#64)] [] [])
      (fun t => t.readX 10#5 == 0xffffffff#64 && t.pc == 0x1004#64) = true := by
  decide +kernel

/-- V30. -/
theorem test_addi_2 :
    gives (.addi 10#5 11#5 0xfff#12) (machine rv64 [(11#5, 0x100000000#64)] [] [])
      (fun t => t.readX 10#5 == 0xffffffff#64 && t.pc == 0x1004#64) = true := by
  decide +kernel

/-- V41. -/
theorem test_slli :
    gives (.slli 10#5 11#5 0#6) (machine rv32NoC [(11#5, 0x80000001#64)] [] [])
      (fun t => t.readX 10#5 == 0x80000001#64 && t.pc == 0x1004#64) = true := by
  decide +kernel

/-- V31. -/
theorem test_slti :
    gives (.slti 10#5 11#5 0xfff#12) (machine rv32NoC [(11#5, 0x80000000#64)] [] [])
      (fun t => t.readX 10#5 == 0x1#64 && t.pc == 0x1004#64) = true := by
  decide +kernel

/-- V33. -/
theorem test_sltiu :
    gives (.sltiu 10#5 11#5 0xfff#12) (machine rv32NoC [(11#5, 0x7fffffff#64)] [] [])
      (fun t => t.readX 10#5 == 0x1#64 && t.pc == 0x1004#64) = true := by
  decide +kernel

/-- V36. -/
theorem test_xori :
    gives (.xori 10#5 11#5 0xfff#12) (machine rv32NoC [(11#5, 0xf0f0f0f#64)] [] [])
      (fun t => t.readX 10#5 == 0xf0f0f0f0#64 && t.pc == 0x1004#64) = true := by
  decide +kernel

/-- V43. -/
theorem test_srli :
    gives (.srli 10#5 11#5 31#6) (machine rv32NoC [(11#5, 0x80000000#64)] [] [])
      (fun t => t.readX 10#5 == 0x1#64 && t.pc == 0x1004#64) = true := by
  decide +kernel

/-- V44. -/
theorem test_srai :
    gives (.srai 10#5 11#5 31#6) (machine rv32NoC [(11#5, 0x80000000#64)] [] [])
      (fun t => t.readX 10#5 == 0xffffffff#64 && t.pc == 0x1004#64) = true := by
  decide +kernel

/-- V37. -/
theorem test_ori :
    gives (.ori 10#5 11#5 0x7ff#12) (machine rv32NoC [(11#5, 0x80000000#64)] [] [])
      (fun t => t.readX 10#5 == 0x800007ff#64 && t.pc == 0x1004#64) = true := by
  decide +kernel

/-- V39. -/
theorem test_andi :
    gives (.andi 10#5 11#5 0xff0#12) (machine rv32NoC [(11#5, 0x12345678#64)] [] [])
      (fun t => t.readX 10#5 == 0x12345670#64 && t.pc == 0x1004#64) = true := by
  decide +kernel

/-- V52. -/
theorem test_auipc :
    gives (.auipc 10#5 0x1#20) (machine rv32NoC [] [] [])
      (fun t => t.readX 10#5 == 0x2000#64 && t.pc == 0x1004#64) = true := by
  decide +kernel

/-- V55. -/
theorem test_auipc_2 :
    gives (.auipc 10#5 0x80000#20) (machine rv64 [] [] [])
      (fun t => t.readX 10#5 == 0xffffffff80001000#64 && t.pc == 0x1004#64) = true := by
  decide +kernel

/-- V17. -/
theorem test_sb :
    gives (.sb 10#5 11#5 0x0#12) (machine rv32NoC [(10#5, 0x12345678#64), (11#5, 0x2000#64)] [] [(0x2000, [0x80#8, 0xff#8, 0x7f#8, 0x01#8, 0xef#8, 0xcd#8, 0xab#8, 0x89#8])])
      (fun t => ([0x2000, 0x2001, 0x2002, 0x2003].map t.mem.read) == [0x78#8, 0xff#8, 0x7f#8, 0x01#8] && t.pc == 0x1004#64) = true := by
  decide +kernel

/-- V18. -/
theorem test_sh :
    gives (.sh 10#5 11#5 0x2#12) (machine rv32NoC [(10#5, 0x12345678#64), (11#5, 0x2000#64)] [] [(0x2000, [0x80#8, 0xff#8, 0x7f#8, 0x01#8, 0xef#8, 0xcd#8, 0xab#8, 0x89#8])])
      (fun t => ([0x2000, 0x2001, 0x2002, 0x2003].map t.mem.read) == [0x80#8, 0xff#8, 0x78#8, 0x56#8] && t.pc == 0x1004#64) = true := by
  decide +kernel

/-- V19. -/
theorem test_sw :
    gives (.sw 10#5 11#5 0x4#12) (machine rv32NoC [(10#5, 0x12345678#64), (11#5, 0x2000#64)] [] [(0x2000, [0x80#8, 0xff#8, 0x7f#8, 0x01#8, 0xef#8, 0xcd#8, 0xab#8, 0x89#8])])
      (fun t => ([0x2004, 0x2005, 0x2006, 0x2007].map t.mem.read) == [0x78#8, 0x56#8, 0x34#8, 0x12#8] && t.pc == 0x1004#64) = true := by
  decide +kernel

/-- V56. -/
theorem test_add :
    gives (.add 10#5 11#5 12#5) (machine rv32NoC [(11#5, 0x7fffffff#64), (12#5, 0x1#64)] [] [])
      (fun t => t.readX 10#5 == 0x80000000#64 && t.pc == 0x1004#64) = true := by
  decide +kernel

/-- V59. -/
theorem test_sub :
    gives (.sub 10#5 11#5 12#5) (machine rv32NoC [(11#5, 0x0#64), (12#5, 0x1#64)] [] [])
      (fun t => t.readX 10#5 == 0xffffffff#64 && t.pc == 0x1004#64) = true := by
  decide +kernel

/-- V62. -/
theorem test_sll :
    gives (.sll 10#5 11#5 12#5) (machine rv32NoC [(11#5, 0x1#64), (12#5, 0x21#64)] [] [])
      (fun t => t.readX 10#5 == 0x2#64 && t.pc == 0x1004#64) = true := by
  decide +kernel

/-- V68. -/
theorem test_slt :
    gives (.slt 10#5 11#5 12#5) (machine rv32NoC [(11#5, 0xffffffff#64), (12#5, 0x1#64)] [] [])
      (fun t => t.readX 10#5 == 0x1#64 && t.pc == 0x1004#64) = true := by
  decide +kernel

/-- V69. -/
theorem test_sltu :
    gives (.sltu 10#5 11#5 12#5) (machine rv32NoC [(11#5, 0xffffffff#64), (12#5, 0x1#64)] [] [])
      (fun t => t.readX 10#5 == 0x0#64 && t.pc == 0x1004#64) = true := by
  decide +kernel

/-- V72. -/
theorem test_xor :
    gives (.xor 10#5 11#5 12#5) (machine rv32NoC [(11#5, 0xff00ff00#64), (12#5, 0xff00ff0#64)] [] [])
      (fun t => t.readX 10#5 == 0xf0f0f0f0#64 && t.pc == 0x1004#64) = true := by
  decide +kernel

/-- V65. -/
theorem test_srl :
    gives (.srl 10#5 11#5 12#5) (machine rv32NoC [(11#5, 0x80000000#64), (12#5, 0xffffffff#64)] [] [])
      (fun t => t.readX 10#5 == 0x1#64 && t.pc == 0x1004#64) = true := by
  decide +kernel

/-- V66. -/
theorem test_sra :
    gives (.sra 10#5 11#5 12#5) (machine rv32NoC [(11#5, 0x80000000#64), (12#5, 0xffffffff#64)] [] [])
      (fun t => t.readX 10#5 == 0xffffffff#64 && t.pc == 0x1004#64) = true := by
  decide +kernel

/-- V73. -/
theorem test_or :
    gives (.or 10#5 11#5 12#5) (machine rv32NoC [(11#5, 0xff00ff00#64), (12#5, 0xff00ff0#64)] [] [])
      (fun t => t.readX 10#5 == 0xfff0fff0#64 && t.pc == 0x1004#64) = true := by
  decide +kernel

/-- V74. -/
theorem test_and :
    gives (.and 10#5 11#5 12#5) (machine rv32NoC [(11#5, 0xff00ff00#64), (12#5, 0xff00ff0#64)] [] [])
      (fun t => t.readX 10#5 == 0xf000f00#64 && t.pc == 0x1004#64) = true := by
  decide +kernel

/-- V49. -/
theorem test_lui :
    gives (.lui 10#5 0x12345#20) (machine rv32NoC [] [] [])
      (fun t => t.readX 10#5 == 0x12345000#64 && t.pc == 0x1004#64) = true := by
  decide +kernel

/-- V75. -/
theorem test_beq :
    gives (.beq 10#5 11#5 0x8#12) (machine rv32NoC [(10#5, 0x5#64), (11#5, 0x5#64)] [] [])
      (fun t => t.pc == 0x1010#64) = true := by
  decide +kernel

/-- V87. -/
theorem test_beq_2 :
    gives (.beq 0#5 0#5 0x0#12) (machine rv32NoC [] [] [])
      (fun t => t.pc == 0x1000#64) = true := by
  decide +kernel

/-- V77. -/
theorem test_bne :
    gives (.bne 10#5 11#5 0xff8#12) (machine rv32NoC [(10#5, 0x5#64), (11#5, 0x6#64)] [] [])
      (fun t => t.pc == 0xff0#64) = true := by
  decide +kernel

/-- V78. -/
theorem test_blt :
    gives (.blt 10#5 11#5 0x4#12) (machine rv32NoC [(10#5, 0xffffffff#64), (11#5, 0x0#64)] [] [])
      (fun t => t.pc == 0x1008#64) = true := by
  decide +kernel

/-- V80. -/
theorem test_bge :
    gives (.bge 10#5 11#5 0x4#12) (machine rv32NoC [(10#5, 0x0#64), (11#5, 0x0#64)] [] [])
      (fun t => t.pc == 0x1008#64) = true := by
  decide +kernel

/-- V79. -/
theorem test_bltu :
    gives (.bltu 10#5 11#5 0x4#12) (machine rv32NoC [(10#5, 0xffffffff#64), (11#5, 0x0#64)] [] [])
      (fun t => t.pc == 0x1004#64) = true := by
  decide +kernel

/-- V82. -/
theorem test_bgeu :
    gives (.bgeu 10#5 11#5 0x4#12) (machine rv32NoC [(10#5, 0x80000000#64), (11#5, 0x0#64)] [] [])
      (fun t => t.pc == 0x1008#64) = true := by
  decide +kernel

/-- V93. -/
theorem test_jalr :
    gives (.jalr 1#5 10#5 0x0#12) (machine rv32NoC [(10#5, 0x2000#64)] [] [])
      (fun t => t.readX 1#5 == 0x1004#64 && t.pc == 0x2000#64) = true := by
  decide +kernel

/-- V97. -/
theorem test_jalr_2 :
    gives (.jalr 0#5 1#5 0x0#12) (machine rv32NoC [(1#5, 0x2000#64)] [] [])
      (fun t => t.readX 0#5 == 0x0#64 && t.pc == 0x2000#64) = true := by
  decide +kernel

/-- V88. -/
theorem test_jal :
    gives (.jal 1#5 0x400#20) (machine rv32NoC [] [] [])
      (fun t => t.readX 1#5 == 0x1004#64 && t.pc == 0x1800#64) = true := by
  decide +kernel

/-- V99. -/
theorem test_jal_2 :
    gives (.jal 1#5 0x4#20) { machine rv64 [] [] [] with pc := 0xfffffffffffffffc#64 }
      (fun t => t.readX 1#5 == 0x0#64 && t.pc == 0x4#64) = true := by
  decide +kernel

/-- V100. -/
theorem test_ld :
    gives (.ld 10#5 11#5 0x0#12) (machine rv64 [(11#5, 0x2000#64)] [] [(0x2000, [0x80#8, 0x7f#8, 0xff#8, 0x01#8, 0xef#8, 0xcd#8, 0xab#8, 0x89#8])])
      (fun t => t.readX 10#5 == 0x89abcdef01ff7f80#64 && t.pc == 0x1004#64) = true := by
  decide +kernel

/-- V101. -/
theorem test_lwu :
    gives (.lwu 10#5 11#5 0x4#12) (machine rv64 [(11#5, 0x2000#64)] [] [(0x2000, [0x80#8, 0x7f#8, 0xff#8, 0x01#8, 0xef#8, 0xcd#8, 0xab#8, 0x89#8])])
      (fun t => t.readX 10#5 == 0x89abcdef#64 && t.pc == 0x1004#64) = true := by
  decide +kernel

/-- V106. -/
theorem test_addiw :
    gives (.addiw 10#5 11#5 0x1#12) (machine rv64 [(11#5, 0x7fffffff#64)] [] [])
      (fun t => t.readX 10#5 == 0xffffffff80000000#64 && t.pc == 0x1004#64) = true := by
  decide +kernel

/-- V110. -/
theorem test_slliw :
    gives (.slliw 10#5 11#5 31#5) (machine rv64 [(11#5, 0xffffffff00000001#64)] [] [])
      (fun t => t.readX 10#5 == 0xffffffff80000000#64 && t.pc == 0x1004#64) = true := by
  decide +kernel

/-- V111. -/
theorem test_srliw :
    gives (.srliw 10#5 11#5 0#5) (machine rv64 [(11#5, 0x80000000#64)] [] [])
      (fun t => t.readX 10#5 == 0xffffffff80000000#64 && t.pc == 0x1004#64) = true := by
  decide +kernel

/-- V113. -/
theorem test_sraiw :
    gives (.sraiw 10#5 11#5 4#5) (machine rv64 [(11#5, 0x80000000#64)] [] [])
      (fun t => t.readX 10#5 == 0xfffffffff8000000#64 && t.pc == 0x1004#64) = true := by
  decide +kernel

/-- V103. -/
theorem test_sd :
    gives (.sd 10#5 11#5 0x8#12) (machine rv64 [(10#5, 0x102030405060708#64), (11#5, 0x2000#64)] [] [])
      (fun t => ([0x2008, 0x2009, 0x200a, 0x200b, 0x200c, 0x200d, 0x200e, 0x200f].map t.mem.read) == [0x08#8, 0x07#8, 0x06#8, 0x05#8, 0x04#8, 0x03#8, 0x02#8, 0x01#8] && t.pc == 0x1004#64) = true := by
  decide +kernel

/-- V115. -/
theorem test_addw :
    gives (.addw 10#5 11#5 12#5) (machine rv64 [(11#5, 0x7fffffff#64), (12#5, 0x1#64)] [] [])
      (fun t => t.readX 10#5 == 0xffffffff80000000#64 && t.pc == 0x1004#64) = true := by
  decide +kernel

/-- V117. -/
theorem test_subw :
    gives (.subw 10#5 11#5 12#5) (machine rv64 [(11#5, 0x0#64), (12#5, 0x1#64)] [] [])
      (fun t => t.readX 10#5 == 0xffffffffffffffff#64 && t.pc == 0x1004#64) = true := by
  decide +kernel

/-- V119. -/
theorem test_sllw :
    gives (.sllw 10#5 11#5 12#5) (machine rv64 [(11#5, 0x1#64), (12#5, 0x3f#64)] [] [])
      (fun t => t.readX 10#5 == 0xffffffff80000000#64 && t.pc == 0x1004#64) = true := by
  decide +kernel

/-- V120. -/
theorem test_srlw :
    gives (.srlw 10#5 11#5 12#5) (machine rv64 [(11#5, 0xffffffff80000000#64), (12#5, 0x20#64)] [] [])
      (fun t => t.readX 10#5 == 0xffffffff80000000#64 && t.pc == 0x1004#64) = true := by
  decide +kernel

/-- V121. -/
theorem test_sraw :
    gives (.sraw 10#5 11#5 12#5) (machine rv64 [(11#5, 0x80000000#64), (12#5, 0x1f#64)] [] [])
      (fun t => t.readX 10#5 == 0xffffffffffffffff#64 && t.pc == 0x1004#64) = true := by
  decide +kernel

/-- V208. -/
theorem test_fmaddS :
    gives (.fmaddS 10#5 11#5 12#5 13#5 .rne) (machine rv32NoC [] [(11#5, 0xffffffff40000000#64), (12#5, 0xffffffff40400000#64), (13#5, 0xffffffff3f800000#64)] [])
      (fun t => t.readF 10#5 == 0xffffffff40e00000#64 && t.fflags == 0#5 && t.pc == 0x1004#64) = true := by
  decide +kernel

/-- V218. -/
theorem test_fmaddD :
    gives (.fmaddD 10#5 11#5 12#5 13#5 .rne) (machine rv32NoC [] [(11#5, 0x4000000000000000#64), (12#5, 0x4008000000000000#64), (13#5, 0x3ff0000000000000#64)] [])
      (fun t => t.readF 10#5 == 0x401c000000000000#64 && t.fflags == 0#5 && t.pc == 0x1004#64) = true := by
  decide +kernel

/-- V209. -/
theorem test_fmsubS :
    gives (.fmsubS 10#5 11#5 12#5 13#5 .rne) (machine rv32NoC [] [(11#5, 0xffffffff40000000#64), (12#5, 0xffffffff40400000#64), (13#5, 0xffffffff3f800000#64)] [])
      (fun t => t.readF 10#5 == 0xffffffff40a00000#64 && t.fflags == 0#5 && t.pc == 0x1004#64) = true := by
  decide +kernel

/-- R241: 3 * 2 - 1 = 5. -/
theorem test_fmsubD :
    gives (.fmsubD 10#5 11#5 12#5 13#5 .rne) (machine rv32NoC [] [(11#5, 0x4008000000000000#64), (12#5, 0x4000000000000000#64), (13#5, 0x3ff0000000000000#64)] [])
      (fun t => t.readF 10#5 == 0x4014000000000000#64 && t.fflags == 0#5) = true := by
  decide +kernel

/-- V210. -/
theorem test_fnmsubS :
    gives (.fnmsubS 10#5 11#5 12#5 13#5 .rne) (machine rv32NoC [] [(11#5, 0xffffffff40000000#64), (12#5, 0xffffffff40400000#64), (13#5, 0xffffffff3f800000#64)] [])
      (fun t => t.readF 10#5 == 0xffffffffc0e00000#64 && t.fflags == 0#5 && t.pc == 0x1004#64) = true := by
  decide +kernel

/-- R242 under `source`: -(3 * 2) - 1 = -7. -/
theorem test_fnmsubD :
    gives (.fnmsubD 10#5 11#5 12#5 13#5 .rne) (machine rv32NoC [] [(11#5, 0x4008000000000000#64), (12#5, 0x4000000000000000#64), (13#5, 0x3ff0000000000000#64)] [])
      (fun t => t.readF 10#5 == 0xc01c000000000000#64 && t.fflags == 0#5) = true := by
  decide +kernel

/-- V211. -/
theorem test_fnmaddS :
    gives (.fnmaddS 10#5 11#5 12#5 13#5 .rne) (machine rv32NoC [] [(11#5, 0xffffffff40000000#64), (12#5, 0xffffffff40400000#64), (13#5, 0xffffffff3f800000#64)] [])
      (fun t => t.readF 10#5 == 0xffffffffc0a00000#64 && t.fflags == 0#5 && t.pc == 0x1004#64) = true := by
  decide +kernel

/-- R243 under `source`: -(3 * 2) + 1 = -5. -/
theorem test_fnmaddD :
    gives (.fnmaddD 10#5 11#5 12#5 13#5 .rne) (machine rv32NoC [] [(11#5, 0x4008000000000000#64), (12#5, 0x4000000000000000#64), (13#5, 0x3ff0000000000000#64)] [])
      (fun t => t.readF 10#5 == 0xc014000000000000#64 && t.fflags == 0#5) = true := by
  decide +kernel

/-- V168. -/
theorem test_faddS :
    gives (.faddS 10#5 11#5 12#5 .rne) (machine rv32NoC [] [(11#5, 0xffffffff3fc00000#64), (12#5, 0xffffffff40100000#64)] [])
      (fun t => t.readF 10#5 == 0xffffffff40700000#64 && t.fflags == 0#5 && t.pc == 0x1004#64) = true := by
  decide +kernel

/-- V184. -/
theorem test_faddS_2 :
    gives (.faddS 10#5 11#5 12#5 .rne) { machine rv32NoC [] [(11#5, 0xffffffff3f800000#64), (12#5, 0xffffffff3f800000#64)] [] with fflags := 31#5 }
      (fun t => t.readF 10#5 == 0xffffffff40000000#64 && t.fflags == 31#5 && t.pc == 0x1004#64) = true := by
  decide +kernel

/-- V185. -/
theorem test_faddD :
    gives (.faddD 10#5 11#5 12#5 .rne) (machine rv32NoC [] [(11#5, 0x3fb999999999999a#64), (12#5, 0x3fc999999999999a#64)] [])
      (fun t => t.readF 10#5 == 0x3fd3333333333334#64 && t.fflags == 1#5 && t.pc == 0x1004#64) = true := by
  decide +kernel

/-- V186. -/
theorem test_fsubS :
    gives (.fsubS 10#5 11#5 12#5 .rne) (machine rv32NoC [] [(11#5, 0xffffffff3f800000#64), (12#5, 0xffffffff3f800000#64)] [])
      (fun t => t.readF 10#5 == 0xffffffff00000000#64 && t.fflags == 0#5 && t.pc == 0x1004#64) = true := by
  decide +kernel

/-- V188. -/
theorem test_fsubD :
    gives (.fsubD 10#5 11#5 12#5 .rne) (machine rv32NoC [] [(11#5, 0x3ff0000000000000#64), (12#5, 0x3ca0000000000000#64)] [])
      (fun t => t.readF 10#5 == 0x3fefffffffffffff#64 && t.fflags == 0#5 && t.pc == 0x1004#64) = true := by
  decide +kernel

/-- V189. -/
theorem test_fmulS :
    gives (.fmulS 10#5 11#5 12#5 .rne) (machine rv32NoC [] [(11#5, 0xffffffff7f7fffff#64), (12#5, 0xffffffff40000000#64)] [])
      (fun t => t.readF 10#5 == 0xffffffff7f800000#64 && t.fflags == 5#5 && t.pc == 0x1004#64) = true := by
  decide +kernel

/-- V195. -/
theorem test_fmulS_2 :
    gives (.fmulS 10#5 11#5 12#5 .rne) (machine rv32NoC [] [(11#5, 0xffffffff7f800000#64), (12#5, 0xffffffff80000000#64)] [])
      (fun t => t.readF 10#5 == 0xffffffff7fc00000#64 && t.fflags == 16#5 && t.pc == 0x1004#64) = true := by
  decide +kernel

/-- V196. -/
theorem test_fmulD :
    gives (.fmulD 10#5 11#5 12#5 .rne) (machine rv32NoC [] [(11#5, 0xc008000000000000#64), (12#5, 0x3fe0000000000000#64)] [])
      (fun t => t.readF 10#5 == 0xbff8000000000000#64 && t.fflags == 0#5 && t.pc == 0x1004#64) = true := by
  decide +kernel

/-- V197. -/
theorem test_fdivS :
    gives (.fdivS 10#5 11#5 12#5 .rne) (machine rv32NoC [] [(11#5, 0xffffffff3f800000#64), (12#5, 0xffffffff40400000#64)] [])
      (fun t => t.readF 10#5 == 0xffffffff3eaaaaab#64 && t.fflags == 1#5 && t.pc == 0x1004#64) = true := by
  decide +kernel

/-- V200. -/
theorem test_fdivS_2 :
    gives (.fdivS 10#5 11#5 12#5 .rne) (machine rv32NoC [] [(11#5, 0xffffffff7f800000#64), (12#5, 0xffffffff00000000#64)] [])
      (fun t => t.readF 10#5 == 0xffffffff7f800000#64 && t.fflags == 0#5 && t.pc == 0x1004#64) = true := by
  decide +kernel

/-- V201. -/
theorem test_fdivD :
    gives (.fdivD 10#5 11#5 12#5 .rne) (machine rv32NoC [] [(11#5, 0x3ff0000000000000#64), (12#5, 0x4008000000000000#64)] [])
      (fun t => t.readF 10#5 == 0x3fd5555555555555#64 && t.fflags == 1#5 && t.pc == 0x1004#64) = true := by
  decide +kernel

/-- V202. -/
theorem test_fsqrtS :
    gives (.fsqrtS 10#5 11#5 .rne) (machine rv32NoC [] [(11#5, 0xffffffff40800000#64)] [])
      (fun t => t.readF 10#5 == 0xffffffff40000000#64 && t.fflags == 0#5 && t.pc == 0x1004#64) = true := by
  decide +kernel

/-- V205. -/
theorem test_fsqrtS_2 :
    gives (.fsqrtS 10#5 11#5 .rne) (machine rv32NoC [] [(11#5, 0xffffffff80000000#64)] [])
      (fun t => t.readF 10#5 == 0xffffffff80000000#64 && t.fflags == 0#5 && t.pc == 0x1004#64) = true := by
  decide +kernel

/-- V206. -/
theorem test_fsqrtD :
    gives (.fsqrtD 10#5 11#5 .rne) (machine rv32NoC [] [(11#5, 0x4000000000000000#64)] [])
      (fun t => t.readF 10#5 == 0x3ff6a09e667f3bcd#64 && t.fflags == 1#5 && t.pc == 0x1004#64) = true := by
  decide +kernel

/-- V219. -/
theorem test_fsgnjS :
    gives (.fsgnjS 10#5 11#5 12#5) (machine rv32NoC [] [(11#5, 0xffffffff3fc00000#64), (12#5, 0xffffffffc0000000#64)] [])
      (fun t => t.readF 10#5 == 0xffffffffbfc00000#64 && t.fflags == 0#5 && t.pc == 0x1004#64) = true := by
  decide +kernel

/-- R249: 1.0 under the sign of -2.0. -/
theorem test_fsgnjD :
    gives (.fsgnjD 10#5 11#5 12#5) (machine rv32NoC [] [(11#5, 0x3ff0000000000000#64), (12#5, 0xc000000000000000#64)] [])
      (fun t => t.readF 10#5 == 0xbff0000000000000#64 && t.fflags == 0#5) = true := by
  decide +kernel

/-- V220. -/
theorem test_fsgnjnS :
    gives (.fsgnjnS 10#5 11#5 12#5) (machine rv32NoC [] [(11#5, 0xffffffff3fc00000#64), (12#5, 0xffffffffc0000000#64)] [])
      (fun t => t.readF 10#5 == 0xffffffff3fc00000#64 && t.fflags == 0#5 && t.pc == 0x1004#64) = true := by
  decide +kernel

/-- R250: 1.0 under the complement of the sign of 2.0. -/
theorem test_fsgnjnD :
    gives (.fsgnjnD 10#5 11#5 12#5) (machine rv32NoC [] [(11#5, 0x3ff0000000000000#64), (12#5, 0x4000000000000000#64)] [])
      (fun t => t.readF 10#5 == 0xbff0000000000000#64 && t.fflags == 0#5) = true := by
  decide +kernel

/-- V221. -/
theorem test_fsgnjxS :
    gives (.fsgnjxS 10#5 11#5 12#5) (machine rv32NoC [] [(11#5, 0xffffffffbfc00000#64), (12#5, 0xffffffffc0000000#64)] [])
      (fun t => t.readF 10#5 == 0xffffffff3fc00000#64 && t.fflags == 0#5 && t.pc == 0x1004#64) = true := by
  decide +kernel

/-- V224. -/
theorem test_fsgnjxD :
    gives (.fsgnjxD 10#5 11#5 11#5) (machine rv32NoC [] [(11#5, 0xc004000000000000#64)] [])
      (fun t => t.readF 10#5 == 0x4004000000000000#64 && t.fflags == 0#5 && t.pc == 0x1004#64) = true := by
  decide +kernel

/-- V225. -/
theorem test_fminS :
    gives (.fminS 10#5 11#5 12#5) (machine rv32NoC [] [(11#5, 0xffffffff00000000#64), (12#5, 0xffffffff80000000#64)] [])
      (fun t => t.readF 10#5 == 0xffffffff80000000#64 && t.fflags == 0#5 && t.pc == 0x1004#64) = true := by
  decide +kernel

/-- R252: -0 is below +0. -/
theorem test_fminD :
    gives (.fminD 10#5 11#5 12#5) (machine rv32NoC [] [(11#5, 0x0#64), (12#5, 0x8000000000000000#64)] [])
      (fun t => t.readF 10#5 == 0x8000000000000000#64 && t.fflags == 0#5) = true := by
  decide +kernel

/-- V226. -/
theorem test_fmaxS :
    gives (.fmaxS 10#5 11#5 12#5) (machine rv32NoC [] [(11#5, 0xffffffff00000000#64), (12#5, 0xffffffff80000000#64)] [])
      (fun t => t.readF 10#5 == 0xffffffff00000000#64 && t.fflags == 0#5 && t.pc == 0x1004#64) = true := by
  decide +kernel

/-- V230. -/
theorem test_fmaxD :
    gives (.fmaxD 10#5 11#5 12#5) (machine rv32NoC [] [(11#5, 0xbff0000000000000#64), (12#5, 0xfff0000000000000#64)] [])
      (fun t => t.readF 10#5 == 0xbff0000000000000#64 && t.fflags == 0#5 && t.pc == 0x1004#64) = true := by
  decide +kernel

/-- V231. -/
theorem test_feqS :
    gives (.feqS 10#5 11#5 12#5) (machine rv32NoC [] [(11#5, 0xffffffff00000000#64), (12#5, 0xffffffff80000000#64)] [])
      (fun t => t.readX 10#5 == 0x1#64 && t.fflags == 0#5 && t.pc == 0x1004#64) = true := by
  decide +kernel

/-- R254: -0 equals +0. -/
theorem test_feqD :
    gives (.feqD 10#5 11#5 12#5) (machine rv32NoC [] [(11#5, 0x0#64), (12#5, 0x8000000000000000#64)] [])
      (fun t => t.readX 10#5 == 0x1#64 && t.fflags == 0#5) = true := by
  decide +kernel

/-- V234. -/
theorem test_fltS :
    gives (.fltS 10#5 11#5 12#5) (machine rv32NoC [] [(11#5, 0xffffffffbf800000#64), (12#5, 0xffffffff3f800000#64)] [])
      (fun t => t.readX 10#5 == 0x1#64 && t.fflags == 0#5 && t.pc == 0x1004#64) = true := by
  decide +kernel

/-- V238. -/
theorem test_fltD :
    gives (.fltD 10#5 11#5 12#5) (machine rv64 [] [(11#5, 0x3ff0000000000000#64), (12#5, 0x7ff0000000000000#64)] [])
      (fun t => t.readX 10#5 == 0x1#64 && t.fflags == 0#5 && t.pc == 0x1004#64) = true := by
  decide +kernel

/-- V236. -/
theorem test_fleS :
    gives (.fleS 10#5 11#5 12#5) (machine rv32NoC [] [(11#5, 0xffffffff3f800000#64), (12#5, 0xffffffff3f800000#64)] [])
      (fun t => t.readX 10#5 == 0x1#64 && t.fflags == 0#5 && t.pc == 0x1004#64) = true := by
  decide +kernel

/-- R256: a quiet NaN compares false and raises NV. -/
theorem test_fleD :
    gives (.fleD 10#5 11#5 12#5) (machine rv32NoC [] [(11#5, 0x7ff8000000000000#64), (12#5, 0x3ff0000000000000#64)] [])
      (fun t => t.readX 10#5 == 0x0#64 && t.fflags == 16#5) = true := by
  decide +kernel

/-- V239. -/
theorem test_fclassS :
    gives (.fclassS 10#5 11#5) (machine rv32NoC [] [(11#5, 0xffffffffff800000#64)] [])
      (fun t => t.readX 10#5 == 0x1#64 && t.fflags == 0#5 && t.pc == 0x1004#64) = true := by
  decide +kernel

/-- V249. -/
theorem test_fclassS_2 :
    gives (.fclassS 10#5 11#5) (machine rv32NoC [] [(11#5, 0x3f800000#64)] [])
      (fun t => t.readX 10#5 == 0x200#64 && t.fflags == 0#5 && t.pc == 0x1004#64) = true := by
  decide +kernel

/-- V250. -/
theorem test_fclassD :
    gives (.fclassD 10#5 11#5) (machine rv32NoC [] [(11#5, 0x7ff0000000000001#64)] [])
      (fun t => t.readX 10#5 == 0x100#64 && t.fflags == 0#5 && t.pc == 0x1004#64) = true := by
  decide +kernel

/-- V252. -/
theorem test_flw :
    gives (.flw 10#5 11#5 0x8#12) (machine rv32NoC [(11#5, 0x2000#64)] [] [(0x2008, [0x00#8, 0x00#8, 0xc0#8, 0x3f#8])])
      (fun t => t.readF 10#5 == 0xffffffff3fc00000#64 && t.fflags == 0#5 && t.pc == 0x1004#64) = true := by
  decide +kernel

/-- V254. -/
theorem test_fsw :
    gives (.fsw 10#5 11#5 0x8#12) (machine rv32NoC [(11#5, 0x2000#64)] [(10#5, 0xffffffff3fc00000#64)] [])
      (fun t => ([0x2008, 0x2009, 0x200a, 0x200b].map t.mem.read) == [0x00#8, 0x00#8, 0xc0#8, 0x3f#8] && t.fflags == 0#5 && t.pc == 0x1004#64) = true := by
  decide +kernel

/-- V265. -/
theorem test_fcvtWS :
    gives (.fcvtWS 10#5 11#5 .rne) (machine rv32NoC [] [(11#5, 0xffffffffbfc00000#64)] [])
      (fun t => t.readX 10#5 == 0xfffffffe#64 && t.fflags == 1#5 && t.pc == 0x1004#64) = true := by
  decide +kernel

/-- V281. -/
theorem test_fcvtWS_2 :
    gives (.fcvtWS 10#5 11#5 .rtz) (machine rv64 [] [(11#5, 0xffffffffbf800000#64)] [])
      (fun t => t.readX 10#5 == 0xffffffffffffffff#64 && t.fflags == 0#5 && t.pc == 0x1004#64) = true := by
  decide +kernel

/-- V282. -/
theorem test_fcvtWuS :
    gives (.fcvtWuS 10#5 11#5 .rtz) (machine rv32NoC [] [(11#5, 0xffffffff4f32d05e#64)] [])
      (fun t => t.readX 10#5 == 0xb2d05e00#64 && t.fflags == 0#5 && t.pc == 0x1004#64) = true := by
  decide +kernel

/-- V288. -/
theorem test_fcvtWuS_2 :
    gives (.fcvtWuS 10#5 11#5 .rtz) (machine rv32NoC [] [(11#5, 0xffffffffff800000#64)] [])
      (fun t => t.readX 10#5 == 0x0#64 && t.fflags == 16#5 && t.pc == 0x1004#64) = true := by
  decide +kernel

/-- V289. -/
theorem test_fcvtSW :
    gives (.fcvtSW 10#5 11#5 .rne) (machine rv32NoC [(11#5, 0xffffffff#64)] [] [])
      (fun t => t.readF 10#5 == 0xffffffffbf800000#64 && t.fflags == 0#5 && t.pc == 0x1004#64) = true := by
  decide +kernel

/-- V295. -/
theorem test_fcvtSW_2 :
    gives (.fcvtSW 10#5 11#5 .rne) (machine rv64 [(11#5, 0xaaaaaaaa00000002#64)] [] [])
      (fun t => t.readF 10#5 == 0xffffffff40000000#64 && t.fflags == 0#5 && t.pc == 0x1004#64) = true := by
  decide +kernel

/-- V290. -/
theorem test_fcvtSWu :
    gives (.fcvtSWu 10#5 11#5 .rne) (machine rv32NoC [(11#5, 0xffffffff#64)] [] [])
      (fun t => t.readF 10#5 == 0xffffffff4f800000#64 && t.fflags == 1#5 && t.pc == 0x1004#64) = true := by
  decide +kernel

/-- V260. -/
theorem test_fmvXW :
    gives (.fmvXW 10#5 11#5) (machine rv32NoC [] [(11#5, 0xffffffffbfc00000#64)] [])
      (fun t => t.readX 10#5 == 0xbfc00000#64 && t.fflags == 0#5 && t.pc == 0x1004#64) = true := by
  decide +kernel

/-- V263. -/
theorem test_fmvWX :
    gives (.fmvWX 10#5 11#5) (machine rv32NoC [(11#5, 0x40490fdb#64)] [] [])
      (fun t => t.readF 10#5 == 0xffffffff40490fdb#64 && t.fflags == 0#5 && t.pc == 0x1004#64) = true := by
  decide +kernel

/-- V256. -/
theorem test_fld :
    gives (.fld 10#5 11#5 0xff8#12) (machine rv32NoC [(11#5, 0x2010#64)] [] [(0x2008, [0x00#8, 0x00#8, 0x00#8, 0x00#8, 0x00#8, 0x00#8, 0x04#8, 0xc0#8])])
      (fun t => t.readF 10#5 == 0xc004000000000000#64 && t.fflags == 0#5 && t.pc == 0x1004#64) = true := by
  decide +kernel

/-- V258. -/
theorem test_fsd :
    gives (.fsd 10#5 11#5 0x10#12) (machine rv32NoC [(11#5, 0x2000#64)] [(10#5, 0xc004000000000000#64)] [])
      (fun t => ([0x2010, 0x2011, 0x2012, 0x2013, 0x2014, 0x2015, 0x2016, 0x2017].map t.mem.read) == [0x00#8, 0x00#8, 0x00#8, 0x00#8, 0x00#8, 0x00#8, 0x04#8, 0xc0#8] && t.fflags == 0#5 && t.pc == 0x1004#64) = true := by
  decide +kernel

/-- V296. -/
theorem test_fcvtWD :
    gives (.fcvtWD 10#5 11#5 .rne) (machine rv32NoC [] [(11#5, 0x41dfffffffe00000#64)] [])
      (fun t => t.readX 10#5 == 0x7fffffff#64 && t.fflags == 16#5 && t.pc == 0x1004#64) = true := by
  decide +kernel

/-- V299. -/
theorem test_fcvtWuD :
    gives (.fcvtWuD 10#5 11#5 .rne) (machine rv32NoC [] [(11#5, 0x41efffffffe00000#64)] [])
      (fun t => t.readX 10#5 == 0xffffffff#64 && t.fflags == 0#5 && t.pc == 0x1004#64) = true := by
  decide +kernel

/-- V301. -/
theorem test_fcvtDW :
    gives (.fcvtDW 10#5 11#5 .rne) (machine rv32NoC [(11#5, 0x80000000#64)] [] [])
      (fun t => t.readF 10#5 == 0xc1e0000000000000#64 && t.fflags == 0#5 && t.pc == 0x1004#64) = true := by
  decide +kernel

/-- V302. -/
theorem test_fcvtDWu :
    gives (.fcvtDWu 10#5 11#5 .rne) (machine rv32NoC [(11#5, 0x80000000#64)] [] [])
      (fun t => t.readF 10#5 == 0x41e0000000000000#64 && t.fflags == 0#5 && t.pc == 0x1004#64) = true := by
  decide +kernel

/-- V304. -/
theorem test_fcvtSD :
    gives (.fcvtSD 10#5 11#5 .rne) (machine rv32NoC [] [(11#5, 0x3fb999999999999a#64)] [])
      (fun t => t.readF 10#5 == 0xffffffff3dcccccd#64 && t.fflags == 1#5 && t.pc == 0x1004#64) = true := by
  decide +kernel

/-- V308. -/
theorem test_fcvtSD_2 :
    gives (.fcvtSD 10#5 11#5 .rne) (machine rv32NoC [] [(11#5, 0x7ff0000000000001#64)] [])
      (fun t => t.readF 10#5 == 0xffffffff7fc00000#64 && t.fflags == 16#5 && t.pc == 0x1004#64) = true := by
  decide +kernel

/-- V309. -/
theorem test_fcvtDS :
    gives (.fcvtDS 10#5 11#5 .rne) (machine rv32NoC [] [(11#5, 0xffffffff3fc00000#64)] [])
      (fun t => t.readF 10#5 == 0x3ff8000000000000#64 && t.fflags == 0#5 && t.pc == 0x1004#64) = true := by
  decide +kernel

/-- V123. -/
theorem test_mul :
    gives (.mul 10#5 11#5 12#5) (machine rv32NoC [(11#5, 0x7#64), (12#5, 0xfffffffd#64)] [] [])
      (fun t => t.readX 10#5 == 0xffffffeb#64 && t.pc == 0x1004#64) = true := by
  decide +kernel

/-- V158. -/
theorem test_mul_2 :
    gives (.mul 10#5 11#5 12#5) (machine rv64 [(11#5, 0xffffffff#64), (12#5, 0xffffffff#64)] [] [])
      (fun t => t.readX 10#5 == 0xfffffffe00000001#64 && t.pc == 0x1004#64) = true := by
  decide +kernel

/-- V126. -/
theorem test_mulh :
    gives (.mulh 10#5 11#5 12#5) (machine rv32NoC [(11#5, 0xffffffff#64), (12#5, 0xffffffff#64)] [] [])
      (fun t => t.readX 10#5 == 0x0#64 && t.pc == 0x1004#64) = true := by
  decide +kernel

/-- V160. -/
theorem test_mulh_2 :
    gives (.mulh 10#5 11#5 12#5) (machine rv64 [(11#5, 0x8000000000000000#64), (12#5, 0x8000000000000000#64)] [] [])
      (fun t => t.readX 10#5 == 0x4000000000000000#64 && t.pc == 0x1004#64) = true := by
  decide +kernel

/-- V128. -/
theorem test_mulhsu :
    gives (.mulhsu 10#5 11#5 12#5) (machine rv32NoC [(11#5, 0xffffffff#64), (12#5, 0xffffffff#64)] [] [])
      (fun t => t.readX 10#5 == 0xffffffff#64 && t.pc == 0x1004#64) = true := by
  decide +kernel

/-- V161. -/
theorem test_mulhsu_2 :
    gives (.mulhsu 10#5 11#5 12#5) (machine rv64 [(11#5, 0xffffffffffffffff#64), (12#5, 0xffffffffffffffff#64)] [] [])
      (fun t => t.readX 10#5 == 0xffffffffffffffff#64 && t.pc == 0x1004#64) = true := by
  decide +kernel

/-- V127. -/
theorem test_mulhu :
    gives (.mulhu 10#5 11#5 12#5) (machine rv32NoC [(11#5, 0xffffffff#64), (12#5, 0xffffffff#64)] [] [])
      (fun t => t.readX 10#5 == 0xfffffffe#64 && t.pc == 0x1004#64) = true := by
  decide +kernel

/-- V135. -/
theorem test_div :
    gives (.div 10#5 11#5 12#5) (machine rv32NoC [(11#5, 0x7#64), (12#5, 0x2#64)] [] [])
      (fun t => t.readX 10#5 == 0x3#64 && t.pc == 0x1004#64) = true := by
  decide +kernel

/-- V164. -/
theorem test_div_2 :
    gives (.div 10#5 11#5 12#5) (machine rv64 [(11#5, 0x80000000#64), (12#5, 0xffffffffffffffff#64)] [] [])
      (fun t => t.readX 10#5 == 0xffffffff80000000#64 && t.pc == 0x1004#64) = true := by
  decide +kernel

/-- V144. -/
theorem test_divu :
    gives (.divu 10#5 11#5 12#5) (machine rv32NoC [(11#5, 0x7#64), (12#5, 0x0#64)] [] [])
      (fun t => t.readX 10#5 == 0xffffffff#64 && t.pc == 0x1004#64) = true := by
  decide +kernel

/-- V165. -/
theorem test_divu_2 :
    gives (.divu 10#5 11#5 12#5) (machine rv64 [(11#5, 0x5#64), (12#5, 0x0#64)] [] [])
      (fun t => t.readX 10#5 == 0xffffffffffffffff#64 && t.pc == 0x1004#64) = true := by
  decide +kernel

/-- V139. -/
theorem test_rem :
    gives (.rem 10#5 11#5 12#5) (machine rv32NoC [(11#5, 0x7#64), (12#5, 0x2#64)] [] [])
      (fun t => t.readX 10#5 == 0x1#64 && t.pc == 0x1004#64) = true := by
  decide +kernel

/-- V163. -/
theorem test_rem_2 :
    gives (.rem 10#5 11#5 12#5) (machine rv64 [(11#5, 0x8000000000000000#64), (12#5, 0xffffffffffffffff#64)] [] [])
      (fun t => t.readX 10#5 == 0x0#64 && t.pc == 0x1004#64) = true := by
  decide +kernel

/-- V146. -/
theorem test_remu :
    gives (.remu 10#5 11#5 12#5) (machine rv32NoC [(11#5, 0x7#64), (12#5, 0x0#64)] [] [])
      (fun t => t.readX 10#5 == 0x7#64 && t.pc == 0x1004#64) = true := by
  decide +kernel

/-- V166. -/
theorem test_remu_2 :
    gives (.remu 10#5 11#5 12#5) (machine rv64 [(11#5, 0xffffffffffffffff#64), (12#5, 0x10#64)] [] [])
      (fun t => t.readX 10#5 == 0xf#64 && t.pc == 0x1004#64) = true := by
  decide +kernel

/-- V312. -/
theorem test_cAddi4spn :
    gives (.cAddi4spn 2#3 0x4#8) (machine rv32 [(2#5, 0x7ffffff0#64)] [] [])
      (fun t => t.readX 10#5 == 0x80000000#64 && t.pc == 0x1002#64) = true := by
  decide +kernel

/-- V362. -/
theorem test_cFld :
    gives (.cFld 2#3 3#3 2#5) (machine rv32 [(11#5, 0x2000#64)] [] [(0x2010, [0x00#8, 0x00#8, 0x00#8, 0x00#8, 0x00#8, 0x00#8, 0xf8#8, 0x3f#8])])
      (fun t => t.readF 10#5 == 0x3ff8000000000000#64 && t.fflags == 0#5 && t.pc == 0x1002#64) = true := by
  decide +kernel

/-- V314. -/
theorem test_cLw :
    gives (.cLw 2#3 3#3 2#5) (machine rv32 [(11#5, 0x2000#64)] [] [(0x2008, [0x80#8, 0xff#8, 0x34#8, 0x12#8])])
      (fun t => t.readX 10#5 == 0x1234ff80#64 && t.pc == 0x1002#64) = true := by
  decide +kernel

/-- V361. -/
theorem test_cFlw :
    gives (.cFlw 2#3 3#3 2#5) (machine rv32 [(11#5, 0x2000#64)] [] [(0x2008, [0x00#8, 0x00#8, 0xc0#8, 0x3f#8])])
      (fun t => t.readF 10#5 == 0xffffffff3fc00000#64 && t.fflags == 0#5 && t.pc == 0x1002#64) = true := by
  decide +kernel

/-- V364. -/
theorem test_cFsd :
    gives (.cFsd 2#3 3#3 1#5) (machine rv32 [(11#5, 0x2000#64)] [(10#5, 0x3ff8000000000000#64)] [])
      (fun t => ([0x2008, 0x2009, 0x200a, 0x200b, 0x200c, 0x200d, 0x200e, 0x200f].map t.mem.read) == [0x00#8, 0x00#8, 0x00#8, 0x00#8, 0x00#8, 0x00#8, 0xf8#8, 0x3f#8] && t.fflags == 0#5 && t.pc == 0x1002#64) = true := by
  decide +kernel

/-- V317. -/
theorem test_cSw :
    gives (.cSw 2#3 3#3 2#5) (machine rv32 [(10#5, 0xcafef00d#64), (11#5, 0x2000#64)] [] [])
      (fun t => ([0x2008, 0x2009, 0x200a, 0x200b].map t.mem.read) == [0x0d#8, 0xf0#8, 0xfe#8, 0xca#8] && t.pc == 0x1002#64) = true := by
  decide +kernel

/-- V363. -/
theorem test_cFsw :
    gives (.cFsw 2#3 3#3 2#5) (machine rv32 [(11#5, 0x2000#64)] [(10#5, 0xffffffff3fc00000#64)] [])
      (fun t => ([0x2008, 0x2009, 0x200a, 0x200b].map t.mem.read) == [0x00#8, 0x00#8, 0xc0#8, 0x3f#8] && t.fflags == 0#5 && t.pc == 0x1002#64) = true := by
  decide +kernel

/-- V318. -/
theorem test_cNop :
    gives .cNop (machine rv32 [] [] [])
      (fun t => t.pc == 0x1002#64) = true := by
  decide +kernel

/-- V319. -/
theorem test_cAddi :
    gives (.cAddi 10#5 63#6) (machine rv32 [(10#5, 0x0#64)] [] [])
      (fun t => t.readX 10#5 == 0xffffffff#64 && t.pc == 0x1002#64) = true := by
  decide +kernel

/-- V385. -/
theorem test_cAddi_2 :
    gives (.cAddi 10#5 0#6) (machine rv32 [(10#5, 0x1234#64), (11#5, 0x77#64)] [] [])
      (fun t => t.readX 10#5 == 0x1234#64 && t.readX 0#5 == 0x0#64 && t.pc == 0x1002#64) = true := by
  decide +kernel

/-- V321. -/
theorem test_cJal :
    gives (.cJal 0x10#11) (machine rv32 [] [] [])
      (fun t => t.readX 1#5 == 0x1002#64 && t.pc == 0x1020#64) = true := by
  decide +kernel

/-- V324. -/
theorem test_cLi :
    gives (.cLi 10#5 63#6) (machine rv32 [(10#5, 0x55#64)] [] [])
      (fun t => t.readX 10#5 == 0xffffffff#64 && t.pc == 0x1002#64) = true := by
  decide +kernel

/-- V326. -/
theorem test_cLui :
    gives (.cLui 10#5 63#6) (machine rv32 [] [] [])
      (fun t => t.readX 10#5 == 0xfffff000#64 && t.pc == 0x1002#64) = true := by
  decide +kernel

/-- V387. -/
theorem test_cLui_2 :
    gives (.cLui 0#5 1#6) (machine rv32 [(10#5, 0x1234#64), (11#5, 0x77#64)] [] [])
      (fun t => t.readX 10#5 == 0x1234#64 && t.readX 0#5 == 0x0#64 && t.pc == 0x1002#64) = true := by
  decide +kernel

/-- V329. -/
theorem test_cAddi16sp :
    gives (.cAddi16sp 62#6) (machine rv32 [(2#5, 0x3000#64)] [] [])
      (fun t => t.readX 2#5 == 0x2fe0#64 && t.pc == 0x1002#64) = true := by
  decide +kernel

/-- V332. -/
theorem test_cSrli :
    gives (.cSrli 2#3 4#5) (machine rv32 [(10#5, 0x80000000#64)] [] [])
      (fun t => t.readX 10#5 == 0x8000000#64 && t.pc == 0x1002#64) = true := by
  decide +kernel

/-- V333. -/
theorem test_cSrai :
    gives (.cSrai 2#3 4#5) (machine rv32 [(10#5, 0x80000000#64)] [] [])
      (fun t => t.readX 10#5 == 0xf8000000#64 && t.pc == 0x1002#64) = true := by
  decide +kernel

/-- V335. -/
theorem test_cAndi :
    gives (.cAndi 2#3 48#6) (machine rv32 [(10#5, 0x12345678#64)] [] [])
      (fun t => t.readX 10#5 == 0x12345670#64 && t.pc == 0x1002#64) = true := by
  decide +kernel

/-- V337. -/
theorem test_cSub :
    gives (.cSub 2#3 3#3) (machine rv32 [(10#5, 0x5#64), (11#5, 0x7#64)] [] [])
      (fun t => t.readX 10#5 == 0xfffffffe#64 && t.pc == 0x1002#64) = true := by
  decide +kernel

/-- V338. -/
theorem test_cXor :
    gives (.cXor 2#3 3#3) (machine rv32 [(10#5, 0xff00ff00#64), (11#5, 0xff00ff0#64)] [] [])
      (fun t => t.readX 10#5 == 0xf0f0f0f0#64 && t.pc == 0x1002#64) = true := by
  decide +kernel

/-- V339. -/
theorem test_cOr :
    gives (.cOr 2#3 3#3) (machine rv32 [(10#5, 0xff00ff00#64), (11#5, 0xff00ff0#64)] [] [])
      (fun t => t.readX 10#5 == 0xfff0fff0#64 && t.pc == 0x1002#64) = true := by
  decide +kernel

/-- V340. -/
theorem test_cAnd :
    gives (.cAnd 2#3 3#3) (machine rv32 [(10#5, 0xff00ff00#64), (11#5, 0xff00ff0#64)] [] [])
      (fun t => t.readX 10#5 == 0xf000f00#64 && t.pc == 0x1002#64) = true := by
  decide +kernel

/-- V342. -/
theorem test_cJ :
    gives (.cJ 0x7fe#11) (machine rv32 [] [] [])
      (fun t => t.pc == 0xffc#64) = true := by
  decide +kernel

/-- V343. -/
theorem test_cBeqz :
    gives (.cBeqz 2#3 0x4#8) (machine rv32 [(10#5, 0x0#64)] [] [])
      (fun t => t.pc == 0x1008#64) = true := by
  decide +kernel

/-- V345. -/
theorem test_cBnez :
    gives (.cBnez 2#3 0xfc#8) (machine rv32 [(10#5, 0x1#64)] [] [])
      (fun t => t.pc == 0xff8#64) = true := by
  decide +kernel

/-- V348. -/
theorem test_cSlli :
    gives (.cSlli 10#5 4#5) (machine rv32 [(10#5, 0x12345678#64)] [] [])
      (fun t => t.readX 10#5 == 0x23456780#64 && t.pc == 0x1002#64) = true := by
  decide +kernel

/-- V389. -/
theorem test_cSlli_2 :
    gives (.cSlli 10#5 0#5) (machine rv32 [(10#5, 0x1234#64), (11#5, 0x77#64)] [] [])
      (fun t => t.readX 10#5 == 0x1234#64 && t.readX 0#5 == 0x0#64 && t.pc == 0x1002#64) = true := by
  decide +kernel

/-- V366. -/
theorem test_cFldsp :
    gives (.cFldsp 10#5 2#6) (machine rv32 [(2#5, 0x3000#64)] [] [(0x3010, [0x00#8, 0x00#8, 0x00#8, 0x00#8, 0x00#8, 0x00#8, 0x00#8, 0xc0#8])])
      (fun t => t.readF 10#5 == 0xc000000000000000#64 && t.fflags == 0#5 && t.pc == 0x1002#64) = true := by
  decide +kernel

/-- V350. -/
theorem test_cLwsp :
    gives (.cLwsp 10#5 3#6) (machine rv32 [(2#5, 0x3000#64)] [] [(0x300c, [0xef#8, 0xbe#8, 0xad#8, 0xde#8])])
      (fun t => t.readX 10#5 == 0xdeadbeef#64 && t.pc == 0x1002#64) = true := by
  decide +kernel

/-- V365. -/
theorem test_cFlwsp :
    gives (.cFlwsp 10#5 3#6) (machine rv32 [(2#5, 0x3000#64)] [] [(0x300c, [0x00#8, 0x00#8, 0x00#8, 0xc0#8])])
      (fun t => t.readF 10#5 == 0xffffffffc0000000#64 && t.fflags == 0#5 && t.pc == 0x1002#64) = true := by
  decide +kernel

/-- V352. -/
theorem test_cJr :
    gives (.cJr 1#5) (machine rv32 [(1#5, 0x2468#64)] [] [])
      (fun t => t.pc == 0x2468#64) = true := by
  decide +kernel

/-- V354. -/
theorem test_cMv :
    gives (.cMv 10#5 11#5) (machine rv32 [(10#5, 0x1#64), (11#5, 0xfeedface#64)] [] [])
      (fun t => t.readX 10#5 == 0xfeedface#64 && t.pc == 0x1002#64) = true := by
  decide +kernel

/-- V355. -/
theorem test_cEbreak :
    gives .cEbreak (machine rv32 [] [] [])
      (fun t => t.outcome == .faulted (.exception (.breakpoint)) 0x1000#64 0x1000#64) = true := by
  decide +kernel

/-- V356. -/
theorem test_cJalr :
    gives (.cJalr 10#5) (machine rv32 [(10#5, 0x4000#64)] [] [])
      (fun t => t.readX 1#5 == 0x1002#64 && t.pc == 0x4000#64) = true := by
  decide +kernel

/-- V358. -/
theorem test_cAdd :
    gives (.cAdd 10#5 11#5) (machine rv32 [(10#5, 0xffffffff#64), (11#5, 0x2#64)] [] [])
      (fun t => t.readX 10#5 == 0x1#64 && t.pc == 0x1002#64) = true := by
  decide +kernel

/-- V368. -/
theorem test_cFsdsp :
    gives (.cFsdsp 10#5 2#6) (machine rv32 [(2#5, 0x3000#64)] [(10#5, 0xc000000000000000#64)] [])
      (fun t => ([0x3010, 0x3011, 0x3012, 0x3013, 0x3014, 0x3015, 0x3016, 0x3017].map t.mem.read) == [0x00#8, 0x00#8, 0x00#8, 0x00#8, 0x00#8, 0x00#8, 0x00#8, 0xc0#8] && t.fflags == 0#5 && t.pc == 0x1002#64) = true := by
  decide +kernel

/-- V359. -/
theorem test_cSwsp :
    gives (.cSwsp 10#5 3#6) (machine rv32 [(10#5, 0x1020304#64), (2#5, 0x3000#64)] [] [])
      (fun t => ([0x300c, 0x300d, 0x300e, 0x300f].map t.mem.read) == [0x04#8, 0x03#8, 0x02#8, 0x01#8] && t.pc == 0x1002#64) = true := by
  decide +kernel

/-- V367. -/
theorem test_cFswsp :
    gives (.cFswsp 10#5 3#6) (machine rv32 [(2#5, 0x3000#64)] [(10#5, 0xffffffffc0000000#64)] [])
      (fun t => ([0x300c, 0x300d, 0x300e, 0x300f].map t.mem.read) == [0x00#8, 0x00#8, 0x00#8, 0xc0#8] && t.fflags == 0#5 && t.pc == 0x1002#64) = true := by
  decide +kernel

/-- V409. -/
theorem test_ecall :
    gives .ecall (machine rv32NoC [] [] [])
      (fun t => t.outcome == .faulted (.exception (.environmentCall .m)) 0x0#64 0x1000#64) = true := by
  decide +kernel

/-- V410. -/
theorem test_ebreak :
    gives .ebreak (machine rv32NoC [] [] [])
      (fun t => t.outcome == .faulted (.exception (.breakpoint)) 0x1000#64 0x1000#64) = true := by
  decide +kernel

/-- V411. -/
theorem test_uret :
    gives .uret { machine rv32NoC [] [] [] with uepc := 0x2000#64 }
      (fun t => t.pc == 0x2000#64) = true := by
  decide +kernel

/-- V412. -/
theorem test_sret :
    gives .sret { machine rv32NoC [] [] [] with sepc := 0x2004#64 }
      (fun t => t.pc == 0x2004#64) = true := by
  decide +kernel

/-- V413. -/
theorem test_mret :
    gives .mret { machine rv32NoC [] [] [] with mepc := 0x2008#64 }
      (fun t => t.pc == 0x2008#64) = true := by
  decide +kernel

/-- V418. -/
theorem test_crrw :
    gives (.crrw 10#5 0x341#12 11#5) { machine rv32NoC [(11#5, 0x2222#64)] [] [] with mepc := 0x1110#64 }
      (fun t => t.readX 10#5 == 0x1110#64 && t.mepc == 0x2220#64 && t.pc == 0x1004#64) = true := by
  decide +kernel

/-- V438. -/
theorem test_crrw_2 :
    gives (.crrw 10#5 0x41#12 11#5) { machine rv32NoC [(11#5, 0x4000#64)] [] [] with uepc := 0x1110#64, priv := .u }
      (fun t => t.readX 10#5 == 0x1110#64 && t.uepc == 0x4000#64 && t.pc == 0x1004#64) = true := by
  decide +kernel

/-- V423. -/
theorem test_crrs :
    gives (.crrs 10#5 0x341#12 11#5) { machine rv32NoC [(11#5, 0xf0#64)] [] [] with mepc := 0x1110#64 }
      (fun t => t.readX 10#5 == 0x1110#64 && t.mepc == 0x11f0#64 && t.pc == 0x1004#64) = true := by
  decide +kernel

/-- V424. -/
theorem test_crrc :
    gives (.crrc 10#5 0x341#12 11#5) { machine rv32NoC [(11#5, 0x110#64)] [] [] with mepc := 0x1110#64 }
      (fun t => t.readX 10#5 == 0x1110#64 && t.mepc == 0x1000#64 && t.pc == 0x1004#64) = true := by
  decide +kernel

/-- V426. -/
theorem test_crrwi :
    gives (.crrwi 10#5 0x3#12 0#5) { machine rv32NoC [] [] [] with frm := 7#3, fflags := 31#5 }
      (fun t => t.readX 10#5 == 0xff#64 && t.frm ++ t.fflags == 0#8 && t.fflags == 0#5 && t.frm == 0#3 && t.pc == 0x1004#64) = true := by
  decide +kernel

/-- V428. -/
theorem test_crrsi :
    gives (.crrsi 10#5 0x1#12 17#5) { machine rv32NoC [] [] [] with frm := 2#3, fflags := 2#5 }
      (fun t => t.readX 10#5 == 0x2#64 && t.fflags == 19#5 && t.frm ++ t.fflags == 83#8 && t.pc == 0x1004#64) = true := by
  decide +kernel

/-- V429. -/
theorem test_crrci :
    gives (.crrci 10#5 0x1#12 31#5) { machine rv32NoC [] [] [] with frm := 2#3, fflags := 31#5 }
      (fun t => t.readX 10#5 == 0x1f#64 && t.fflags == 0#5 && t.frm ++ t.fflags == 64#8 && t.pc == 0x1004#64) = true := by
  decide +kernel

/-! ## Witnesses: for each statement with hypotheses, states and operands that meet them -/

theorem witness_DecodeEncode :
    (Instr.addi 31#5 1#5 0xfff#12).wf Isa.rv32ref = true ∧
    (Instr.srai 31#5 1#5 63#6).wf Isa.rv64ref = true ∧
    (Instr.cLui 31#5 63#6).wf Isa.rv32ref = true := by decide

theorem witness_EncodeDecode :
    decode Isa.rv32ref (.full 0x00158513#32) = .ok (.addi 10#5 11#5 1#12) ∧
    decode Isa.rv32ref (.half 0x0808#16) = .ok (.cAddi4spn 2#3 4#8) := ⟨rfl, rfl⟩

theorem witness_DecodeBytesOfEncoding : Instr.ebreak.wf Isa.rv32ref = true := by decide

/-- A value for each clause of `ReservedHalfwordsRejected`. -/
theorem witness_ReservedHalfwordsRejected :
    ((0x8000#16).extractLsb' 0 2 = 0#2 ∧ (0x8000#16).extractLsb' 13 3 = 4#3) ∧
    ((0x001c#16).extractLsb' 0 2 = 0#2 ∧ (0x001c#16).extractLsb' 13 3 = 0#3 ∧
      (0x001c#16).extractLsb' 5 8 = 0#8) ∧
    ((0x6081#16).extractLsb' 0 2 = 1#2 ∧ (0x6081#16).extractLsb' 13 3 = 3#3 ∧
      (0x6081#16).extractLsb' 12 1 = 0#1 ∧ (0x6081#16).extractLsb' 2 5 = 0#5) ∧
    ((0x9401#16).extractLsb' 0 2 = 1#2 ∧ (0x9401#16).extractLsb' 13 3 = 4#3 ∧
      (0x9401#16).extractLsb' 11 1 = 0#1 ∧ (0x9401#16).extractLsb' 12 1 = 1#1) ∧
    ((0x1002#16).extractLsb' 0 2 = 2#2 ∧ (0x1002#16).extractLsb' 13 3 = 0#3 ∧
      (0x1002#16).extractLsb' 12 1 = 1#1) ∧
    ((0x9c01#16).extractLsb' 0 2 = 1#2 ∧ (0x9c01#16).extractLsb' 10 6 = 0b100111#6) ∧
    ((0x4002#16).extractLsb' 0 2 = 2#2 ∧ (0x4002#16).extractLsb' 13 3 = 2#3 ∧
      (0x4002#16).extractLsb' 7 5 = 0#5) ∧
    (isaBare.hasD = false ∧ (0x2000#16).extractLsb' 0 2 = 0#2 ∧ (0x2000#16).extractLsb' 13 3 = 1#3 ∧
      (0xa002#16).extractLsb' 0 2 = 2#2 ∧ (0xa002#16).extractLsb' 13 3 = 5#3) ∧
    (isaBare.hasF = false ∧ (0x6000#16).extractLsb' 0 2 = 0#2 ∧ (0x6000#16).extractLsb' 13 3 = 3#3 ∧
      (0xe002#16).extractLsb' 0 2 = 2#2 ∧ (0xe002#16).extractLsb' 13 3 = 7#3) := by decide

/-- A word for each clause of `UnlistedWordsRejected`: `fence`, `addiw`, `addw`, `ld`, `lwu`, `sd`,
`ecall`, `mul`, `fadd` with `fmt` 2 and 3, `slli` by 32, `flw`, `fld`, `fadd.d`, `fcvt.s.d`. -/
theorem witness_UnlistedWordsRejected :
    (0x0000000f#32).extractLsb' 0 7 = 0b0001111#7 ∧ Isa.rv32ref.xlen = .x32 ∧
    (0x0015851b#32).extractLsb' 0 7 = 0b0011011#7 ∧ (0x0000003b#32).extractLsb' 0 7 = 0b0111011#7 ∧
    ((0x00003003#32).extractLsb' 0 7 = 0b0000011#7 ∧ (0x00003003#32).extractLsb' 12 3 = 3#3) ∧
    ((0x00006003#32).extractLsb' 0 7 = 0b0000011#7 ∧ (0x00006003#32).extractLsb' 12 3 = 6#3) ∧
    ((0x00003023#32).extractLsb' 0 7 = 0b0100011#7 ∧ (0x00003023#32).extractLsb' 12 3 = 3#3) ∧
    isaBare.hasC = false ∧ isaBare.s = false ∧ (0x00000073#32).extractLsb' 0 7 = 0b1110011#7 ∧
    isaBare.m = false ∧ (0x02c58533#32).extractLsb' 0 7 = 0b0110011#7 ∧
    (0x02c58533#32).extractLsb' 25 7 = 1#7 ∧ (0x04000053#32).extractLsb' 0 7 = 0b1010011#7 ∧
    (0x04000053#32).extractLsb' 25 2 = 2#2 ∧ (0x06000053#32).extractLsb' 25 2 = 3#2 ∧
    ((0x02051513#32).extractLsb' 0 7 = 0b0010011#7 ∧ (0x02051513#32).extractLsb' 12 3 = 1#3 ∧
      (0x02051513#32).extractLsb' 25 1 = 1#1) ∧
    (isaBare.hasF = false ∧ (0x00002007#32).extractLsb' 0 7 = 0b0000111#7) ∧
    ({ Isa.rv32ref with fp := .f } : Isa).hasD = false ∧
    (0x00003007#32).extractLsb' 12 3 = 3#3 ∧ (0x02000053#32).extractLsb' 25 2 = 1#2 ∧
    (0x4015f553#32).extractLsb' 27 5 = 0b01000#5 := by decide

/-- `addi a0, a1, 1` at `pc`. -/
def atAddi : State := machine rv32 [] [] [(0x1000, [0x13#8, 0x85#8, 0x15#8, 0x00#8])]

/-- `c.nop` at `pc`. -/
def atNop : State := machine rv32 [] [] [(0x1000, [0x01#8, 0x00#8])]

/-- A word of `instr[6:0]` all ones at `pc`. -/
def atOnes : State := machine rv32 [] [] [(0x1000, [0x7f#8, 0x00#8, 0x00#8, 0x00#8])]

/-- A floating-point word with `rm = 5` at `pc`. -/
def atRm5 : State := machine rv32 [] [] [(0x1000, [0x53#8, 0x50#8, 0x00#8, 0x00#8])]

/-- Zeros at `pc`, at the top of the address space of a machine without `C`. -/
def atZero : State := { machine rv32NoC [] [] [] with pc := 0xfffffffe#64 }

theorem witness_LengthOfInstruction :
    (atAddi.fetch = .got (.full 0x00158513#32) ∧ (atAddi.parcelAt atAddi.pc).extractLsb' 0 2 = 0b11#2) ∧
    (atNop.fetch = .got (.half 0x0001#16) ∧ (atNop.parcelAt atNop.pc).extractLsb' 0 2 ≠ 0b11#2) ∧
    (0x0000007f#32).extractLsb' 0 7 = 0b1111111#7 := by decide +kernel

theorem witness_StepRunsDecodedInstruction :
    atAddi.outcome = .running ∧ atAddi.fetch = .got (.full 0x00158513#32) ∧
    decode atAddi.cfg.isa (.full 0x00158513#32) = .ok (.addi 10#5 11#5 1#12) :=
  ⟨by decide +kernel, by decide +kernel, rfl⟩

theorem witness_StepRunsInstructionInMemory :
    let i := Instr.addi 10#5 11#5 1#12
    let as := atAddi.accessAddrs atAddi.pc (encode i).ilen
    atAddi.outcome = .running ∧ i.wf atAddi.cfg.isa = true ∧
    byteSum atAddi.mem as = (encode i).bits.toNat ∧
    (∀ a ∈ as, atAddi.canExec a = true ∧ a ∉ atAddi.modified) := by decide +kernel

/-- A machine whose second parcel is not executable. -/
def atEdge : State :=
  { atAddi with cfg := { rv32 with memMap := [⟨0x1000, 0x1002, true, true, true⟩] } }

/-- A machine that has stored to the last byte of the instruction at `pc`. -/
def atStored : State := { atAddi with modified := [0x1003] }

theorem witness_FetchFaults :
    (atEdge.outcome = .running ∧ ∃ a ∈ atEdge.accessAddrs atEdge.pc atEdge.fetchLength, atEdge.canExec a = false) ∧
    (atStored.outcome = .running ∧
      (∀ a ∈ atStored.accessAddrs atStored.pc atStored.fetchLength, atStored.canExec a = true) ∧
      ∃ a ∈ atStored.accessAddrs atStored.pc atStored.fetchLength, a ∈ atStored.modified) := by
  decide +kernel

theorem witness_HaltedMachine :
    atAddi.cfg.trapLayer = .fault ∧
    (atAddi.raise .breakpoint 0x1000#64).outcome =
      .faulted (.exception .breakpoint) 0x1000#64 0x1000#64 := by decide +kernel

theorem witness_UnlistedEncodingRaises :
    atOnes.outcome = .running ∧ atOnes.fetch = .got (.full 0x0000007f#32) ∧
    decode atOnes.cfg.isa (.full 0x0000007f#32) = .error .unlistedOpcode :=
  ⟨by decide +kernel, by decide +kernel, rfl⟩

theorem witness_ZeroParcelIsIllegal :
    atZero.outcome = .running ∧ byteSum atZero.mem (atZero.accessAddrs atZero.pc 2) = 0 ∧
    (∀ a ∈ atZero.accessAddrs atZero.pc 2, atZero.canExec a = true ∧ a ∉ atZero.modified) := by
  decide +kernel

theorem witness_FaultLayerRaise : atAddi.cfg.trapLayer = .fault := by decide

/-- A well-formed state of mode U under the trap layer. -/
def inUser : State := { machine layeredMSU [] [] [] with priv := .u }

/-- A well-formed state of mode M under the trap layer, with a return to S prepared. -/
def inMachine : State := { machine layeredMSU [] [] [] with mpp := .s, mepc := 0x2000#64 }

theorem witness_TrapEntry : inUser.Ok ∧ inUser.cfg.trapLayer = .mmode :=
  ⟨by constructor <;> decide +kernel, by decide⟩

theorem witness_MachineReturn :
    inMachine.cfg.isa.s = true ∧ inMachine.cfg.trapLayer = .mmode ∧ inMachine.hasCsr .mepc = true ∧
    inMachine.priv = .m := by decide +kernel

/-- Mode U at an `ecall` under the layer. -/
def userEcall : State := { machine layeredMSU [] [] [(0x1000, [0x73#8, 0x00#8, 0x00#8, 0x00#8])] with priv := .u }

/-- A machine whose `CSR_FILE` is empty. -/
def noCsrs : State := machine { rv32 with csrFile := [] } [] [] []

theorem witness_ReturnsFromException :
    (atAddi.cfg.isa.s = true ∧ atAddi.hasCsr .uepc = true) ∧
    (atAddi.hasCsr .sepc = true ∧ atAddi.priv ≠ .u) ∧
    (atAddi.hasCsr .mepc = true ∧ atAddi.priv = .m ∧ atAddi.cfg.trapLayer = .fault) ∧
    (noCsrs.cfg.isa.s = true ∧ noCsrs.hasCsr .uepc = false ∧ noCsrs.hasCsr .sepc = false ∧
      noCsrs.hasCsr .mepc = false) ∧
    (inUser.cfg.isa.s = true ∧ inUser.priv = .u) := by decide +kernel

/-- A machine whose `HOST` has one row: with 1 in `a7` it writes `a0` and two bytes at 0x2000, and the run
resumes; and one for 2 that ends the run. -/
def served (a7 : Word) : State :=
  machine
    { rv32 with host :=
        [⟨1, [.equals (.x 17#5) 1#64], [.x 10#5], [], [.x 10#5], [⟨0#5, 0x2000#64, 0#5, 2⟩], true⟩,
         ⟨2, [.equals (.x 17#5) 2#64], [], [], [], [], false⟩] }
    [(17#5, a7)] [] []

theorem witness_CallsAndBreakpoints :
    atAddi.cfg.isa.s = true ∧ atAddi.cfg.isa.hasC = true ∧ atAddi.cfg.host = [] ∧
    userEcall.cfg.isa.s = true ∧ userEcall.cfg.trapLayer = .mmode ∧
    (served 3#64).hostRow = none ∧ (served 1#64).cfg.trapLayer = .fault ∧
    ((served 1#64).hostRow.map (·.resumes)) = some true ∧
    ((served 2#64).hostRow.map (·.resumes)) = some false := by decide +kernel

/-- R526: the service resumes the run after the call, writes only what its row says, or ends the run. -/
theorem test_ecall_served :
    gives .ecall (served 1#64) (fun t => t.outcome == .running && t.pc == 0x1004#64 &&
      t.readX 17#5 == 1#64 && t.hostWrites ⟨1, [], [], [], [], [⟨0#5, 0x2000#64, 0#5, 2⟩], true⟩
        == [0x2000, 0x2001] && t.modified == [0x2000, 0x2001]) = true ∧
    gives .ecall (served 2#64) (fun t =>
      t.outcome == .faulted (.exception (.environmentCall .m)) 0#64 0x1000#64) = true ∧
    gives .ecall (served 3#64) (fun t =>
      t.outcome == .faulted (.exception (.environmentCall .m)) 0#64 0x1000#64) = true := by
  decide +kernel

/-- Mode M at an `mret`. -/
def machineMret : State :=
  { machine layeredMSU [] [] [(0x1000, [0x73#8, 0x00#8, 0x20#8, 0x30#8])] with mpp := .s }

/-- The step goes on to a state with the property. -/
def stepsTo (s : State) (p : State → Bool) : Bool :=
  match step s with
  | .next t => p t
  | .fault _ => false
  | .refused _ => false

theorem witness_ModeTransitions :
    stepsTo userEcall (fun t => t.priv == .m) = true ∧ userEcall.cfg.trapLayer = .mmode ∧
    stepsTo machineMret (fun t => t.priv == .s) = true ∧
    machineMret.cfg.isa.s = true ∧ machineMret.hasCsr .mepc = true ∧ machineMret.priv = .m ∧
    stepsTo atAddi (fun t => t.priv == .m) = true ∧ atAddi.cfg.trapLayer = .fault := by
  decide +kernel

/-- Mode U at `addi`, and at an access to `mscratch`, which traps. -/
def userAddi : State := { machine layeredMSU [] [] [(0x1000, [0x13#8, 0x85#8, 0x15#8, 0x00#8])] with priv := .u }

def userCsr : State := { machine layeredMSU [] [] [(0x1000, [0x73#8, 0x10#8, 0x00#8, 0x34#8])] with priv := .u }

theorem witness_MachineRegistersProtected :
    userAddi.priv ≠ .m ∧ stepsTo userAddi (fun t => t.priv != .m) = true ∧
    userCsr.priv ≠ .m ∧ stepsTo userCsr (fun t => t.priv == .m) = true ∧
    userAddi.priv.code.toNat < modeAsked 0x7c0#12 ∧ userAddi.priv.code.toNat < modeAsked 0x200#12 := by
  decide +kernel

theorem witness_StoredValueIsLittleEndian :
    atAddi.mem.wf = true ∧ [0xfffffffe, 0xffffffff, 0, 1, 2, 3, 4, 5].Nodup ∧
    [0xfffffffe, 0xffffffff, 0, 1, 2, 3, 4, 5].length ≤ 8 ∧ 0x2000 ∉ [0xfffffffe, 0xffffffff, 0, 1, 2, 3, 4, 5] := by
  decide +kernel

/-- `x11 = 1`, and a map that ends before 0x2002 and grants only reading from 0x2000 on. -/
def narrowMap : State :=
  machine { rv32 with memMap := [⟨0, 0x2000, true, true, true⟩, ⟨0x2000, 0x2002, true, false, false⟩] }
    [(11#5, 0x2000#64)] [] []

/-- As `narrowMap`, with split accesses; the bytes 0x1ffe and 0x1fff may be written. -/
def narrowSplit : State := { narrowMap with cfg := { narrowMap.cfg with misaligned := .split } }

theorem witness_LoadExceptions :
    (narrowMap.cfg.misaligned = .fault ∧ narrowMap.loadAccess (.lh 10#5 11#5 1#12) = some (0x2001#64, 2) ∧
      (0x2001#64).toNat % 2 ≠ 0) ∧
    (narrowMap.loadAccess (.lw 10#5 11#5 0#12) = some (0x2000#64, 4) ∧ (0x2000#64).toNat % 4 = 0 ∧
      ∃ a ∈ narrowMap.accessAddrs 0x2000#64 4, narrowMap.canRead a = false) ∧
    (narrowSplit.loadAccess (.lh 10#5 11#5 1#12) = some (0x2001#64, 2) ∧
      narrowSplit.cfg.misaligned = .split ∧
      ∃ a ∈ narrowSplit.accessAddrs 0x2001#64 2, narrowSplit.canRead a = false) := by decide +kernel

theorem witness_StoreExceptions :
    (narrowMap.cfg.misaligned = .fault ∧
      narrowMap.storeAccess (.sh 0#5 11#5 1#12) = some (0x2001#64, 2, 0#64) ∧ (0x2001#64).toNat % 2 ≠ 0) ∧
    (narrowMap.storeAccess (.sw 0#5 11#5 0#12) = some (0x2000#64, 4, 0#64) ∧ (0x2000#64).toNat % 4 = 0 ∧
      ∃ a ∈ narrowMap.accessAddrs 0x2000#64 4, narrowMap.canWrite a = false) ∧
    (narrowSplit.cfg.misaligned = .split ∧
      narrowSplit.storeAccess (.sw 0#5 11#5 0xffe#12) = some (0x1ffe#64, 4, 0#64) ∧
      (0x1ffe#64).toNat % 4 ≠ 0 ∧
      (∃ a ∈ narrowSplit.accessAddrs 0x1ffe#64 4, narrowSplit.canWrite a = false) ∧
      (narrowSplit.accessAddrs 0x1ffe#64 4).takeWhile narrowSplit.canWrite = [0x1ffe, 0x1fff]) := by
  decide +kernel

theorem witness_StepKeepsOk : atAddi.Ok ∧ stepsTo atAddi (fun t => t.pc == 0x1004#64) = true :=
  ⟨by constructor <;> decide +kernel, by decide +kernel⟩

theorem witness_ResetWithOk : rv32.wf = true ∧ rv64.wf = true := by decide

theorem witness_StepKeepsParameters : stepsTo atNop (fun _ => true) = true := by decide +kernel

/-- `sw a0, 0(a1)` at `pc`, to the last word of the address space. -/
def atStore : State :=
  machine rv32 [(10#5, 0x01020304#64), (11#5, 0xfffffffc#64)] []
    [(0x1000, [0x23#8, 0xa0#8, 0xa5#8, 0x00#8])]

theorem witness_ChangedBytesAreRecorded :
    stepsTo atStore (fun t => t.mem.read 0xffffffff != atStore.mem.read 0xffffffff) = true := by
  decide +kernel

theorem witness_OnlyCsrInstructionsClearFlags :
    stepsTo { atNop with fflags := 0x1f#5 } (fun t => t.fflags == 0x1f#5) = true := by decide +kernel

/-- A machine with two registers that the spec does not describe, one of them in the read-only quarter. -/
def moreCsrs : State :=
  machine
    { rv32 with extraCsrs := [⟨0xc05#12, [⟨0, 32, .any⟩], none⟩,
        ⟨0x801#12, [⟨0, 4, .any⟩, ⟨4, 4, .readOnly⟩, ⟨8, 4, .zero⟩, ⟨12, 2, .legal [1#64, 2#64]⟩], some 0x1fff#64⟩] }
    [] [] []

theorem witness_ResetValues :
    (31#5 : Reg) ≠ 0#5 ∧ (moreCsrs.extraDesc 0x801#12).map (·.reset) = some (some 0x1fff#64) ∧
    (moreCsrs.extraDesc 0xc05#12).map (·.reset) = some none := by decide +kernel

theorem witness_ResetImage :
    let image : List (Nat × List Byte) := [(0xffffffff, [0x5a#8]), (0x1000, [1#8, 2#8])]
    let addrs := image.flatMap fun p => (List.range p.2.length).map (p.1 + ·)
    addrs.Nodup ∧ (∀ a ∈ addrs, a < 2 ^ rv32.xlen.bits) ∧ 0xfffffffe ∉ addrs := by decide +kernel

theorem witness_IntegerRegisterFile : (31#5 : Reg) ≠ 0#5 ∧ (0#5 : Reg) ≠ 31#5 := by decide

theorem witness_ImmediateArithmetic :
    (31#6).toNat < (machine rv32 [] [] []).xlen.bits ∧ (63#6).toNat < (machine rv64 [] [] []).xlen.bits := by
  decide +kernel

theorem witness_WordArithmetic : (machine rv64 [] [] []).xlen = .x64 := by decide

theorem witness_Multiplication : (machine rv32 [] [] []).cfg.isa.m = true := by decide

/-- `x10 = -2^31`, `x11 = -1`, `x12 = 1`. -/
def corner : State :=
  machine rv32 [(10#5, 0x80000000#64), (11#5, 0xffffffff#64), (12#5, 1#64)] [] []

theorem witness_Division :
    corner.cfg.isa.m = true ∧ corner.cfg.div = DivCorners.reference ∧ corner.ux 0#5 = 0 ∧
    (corner.sx 10#5 = -2 ^ (corner.xlen.bits - 1) ∧ corner.sx 11#5 = -1) ∧
    (corner.ux 12#5 ≠ 0 ∧ ¬(corner.sx 12#5 = -1)) := by decide +kernel

/-- `x11` four bytes below the top of the address space. -/
def atTop (c : Config) : State := machine c [(11#5, 0xfffffffffffffffc#64)] [] []

/-- As `atTop`, with split accesses. -/
def atTopSplit (c : Config) : State := atTop { c with misaligned := .split }

/-- An aligned access that ends at the top, and a split one that wraps around it. -/
theorem witness_IntegerLoads :
    ((atTop rv32).ea 11#5 (immI 0#12)).toNat % 4 = 0 ∧
    (∀ a ∈ (atTop rv32).accessAddrs ((atTop rv32).ea 11#5 (immI 0#12)) 4, (atTop rv32).canRead a = true) ∧
    (atTopSplit rv64).cfg.misaligned = .split ∧ (atTopSplit rv64).xlen = .x64 ∧
    (∀ a ∈ (atTopSplit rv64).accessAddrs ((atTopSplit rv64).ea 11#5 (immI 0#12)) 8,
      (atTopSplit rv64).canRead a = true) := by decide +kernel

theorem witness_IntegerStores :
    (atTop rv32).mem.wf = true ∧ ((atTop rv32).ea 11#5 (immI 0#12)).toNat % 4 = 0 ∧
    (∀ a ∈ (atTop rv32).accessAddrs ((atTop rv32).ea 11#5 (immI 0#12)) 4, (atTop rv32).canWrite a = true) ∧
    (atTopSplit rv64).mem.wf = true ∧ (atTopSplit rv64).xlen = .x64 ∧
    (∀ a ∈ (atTopSplit rv64).accessAddrs ((atTopSplit rv64).ea 11#5 (immI 0#12)) 8,
      (atTopSplit rv64).canWrite a = true) := by decide +kernel

/-- Both outcomes of a branch, and a target that is aligned and one that is not. -/
theorem witness_ConditionalBranches :
    corner.ux 0#5 = corner.ux 0#5 ∧ ¬(corner.ux 10#5 = corner.ux 11#5) ∧
    corner.sx 10#5 < corner.sx 11#5 ∧ ¬(corner.sx 11#5 < corner.sx 10#5) ∧
    corner.ux 10#5 < corner.ux 11#5 ∧ ¬(corner.ux 11#5 < corner.ux 10#5) ∧
    ((0x1000 + 2 * (2047#12).toInt) % 2 ^ 32) % 4 = 2 ∧
    ((0x1000 + 2 * (2048#12).toInt) % 2 ^ 32) % 4 = 0 := by decide +kernel

theorem witness_ImmediatePairs :
    (5#5 : Reg) ≠ 0#5 ∧
    gives (.lui 5#5 (hi20 0xfffff800#32)) atNop
      (fun t => gives (.addi 5#5 5#5 (lo12 0xfffff800#32)) t (fun u => u.readX 5#5 == 0xfffff800#64)) = true ∧
    gives (.auipc 5#5 (hi20 0x800#32)) atNop
      (fun t => gives (.addi 5#5 5#5 (lo12 0x800#32)) t (fun u => u.readX 5#5 == 0x1800#64)) = true ∧
    gives (.lui 5#5 (hi20 0x7ffff800#32)) (machine rv64 [] [] [])
      (fun t => gives (.addi 5#5 5#5 (lo12 0x7ffff800#32)) t
        (fun u => u.readX 5#5 == 0xffffffff7ffff800#64)) = true := by
  decide +kernel

theorem witness_CsrInstructions :
    atAddi.cfg.isa.s = true ∧ atAddi.csrAllowed 0x003#12 true = true ∧
    atAddi.csrAllowed 0x341#12 (31#5 != 0#5) = true ∧ atAddi.csrAllowed 0x341#12 (0#5 != 0#5) = true := by
  decide +kernel

/-- A number that does not exist, one above the mode, and a read-only one that exists. -/
theorem witness_CsrChecks :
    atAddi.csrAllowed 0xc00#12 true = false ∧ inUser.csrAllowed 0x300#12 (1#5 != 0#5) = false ∧
    inUser.csrExists 0x300#12 = true ∧
    moreCsrs.csrAllowed 0xc05#12 true = false ∧ moreCsrs.csrAllowed 0xc05#12 false = true := by
  decide +kernel

theorem witness_ReferenceCsrFile :
    (inUser.cfg.csrFile = Csr.reference inUser.cfg.isa inUser.cfg.trapLayer ∧ inUser.cfg.extraCsrs = []) ∧
    (atAddi.cfg.csrFile = Csr.reference atAddi.cfg.isa atAddi.cfg.trapLayer ∧ atAddi.cfg.extraCsrs = []) := by
  decide +kernel

theorem witness_CsrFields :
    inMachine.hasCsr .mstatus = true ∧ inMachine.hasCsr .fcsr = true ∧ inMachine.hasCsr .fflags = true ∧
    inMachine.hasCsr .frm = true ∧ csrShares .fcsr .mepc = false ∧
    moreCsrs.namedCsr 0x801#12 = none ∧ (moreCsrs.extraDesc 0x801#12).isSome = true ∧
    31 < moreCsrs.xlen.bits := by decide +kernel

/-- The fields of the described register do not overlap. -/
theorem witness_CsrFields_apart :
    FieldsApart ⟨0x801#12, [⟨0, 4, .any⟩, ⟨4, 4, .readOnly⟩, ⟨8, 4, .zero⟩], none⟩ := by
  refine ⟨?_, by simp⟩
  simp only [List.pairwise_cons, List.mem_cons, List.not_mem_nil, or_false, forall_eq_or_imp,
    forall_eq, fieldCovers, List.Pairwise.nil, and_true, false_imp_iff, implies_true]
  refine ⟨⟨fun k => ?_, fun k => ?_⟩, fun k => ?_⟩ <;> omega

/-- A write of ones: the read-only field keeps `f`, the zero field reads as zero, 3 is not legal in the
last field, which keeps 1; the reserved bits keep their values. -/
theorem test_extraCsr :
    moreCsrs.readCsr 0x801#12 = 0x10ff#64 ∧
    (moreCsrs.writeCsr 0x801#12 0xfffffff5#64).readCsr 0x801#12 = 0x10f5#64 := by decide +kernel

/-- Registers of 64 bits, boxed and not, and a machine with registers of 32 bits. -/
theorem witness_FpRegisterFile :
    (machine rv32 [] [(1#5, 0xffffffff3f800000#64)] []).cfg.isa.flen64 = true ∧
    ((machine rv32 [] [(1#5, 0xffffffff3f800000#64)] []).readF 1#5).toNat / 2 ^ 32 = 2 ^ 32 - 1 ∧
    ((machine rv32 [] [(1#5, 0xfffffffe3f800000#64)] []).readF 1#5).toNat / 2 ^ 32 ≠ 2 ^ 32 - 1 ∧
    ({ Isa.rv32ref with fp := .f } : Isa).flen64 = false ∧ (0#5 : Reg) ≠ 31#5 := by decide +kernel

/-- A doubleword access that ends at the top of a 32-bit address space. -/
theorem witness_FpLoadsStoresMoves :
    (atTop rv32).cfg.isa.hasF = true ∧ (atTop rv32).cfg.isa.hasD = true ∧ (atTop rv32).mem.wf = true ∧
    ((atTop rv32).ea 11#5 (immI 0xffc#12)).toNat % 8 = 0 ∧
    (∀ a ∈ (atTop rv32).accessAddrs ((atTop rv32).ea 11#5 (immI 0xffc#12)) 8,
      (atTop rv32).canRead a = true ∧ (atTop rv32).canWrite a = true) := by decide +kernel

/-- R234: an invalid operation, a division by zero, an exact zero sum under `RDN`, a quotient and a root
that are not exact. -/
theorem test_fpSpecialCases :
    ieeeNumerics.add .single .rne 0x7f800000 0xff800000 = (0x7fc00000, flagNV) ∧
    ieeeNumerics.div .single .rne 0xbf800000 0x00000000 = (0xff800000, flagDZ) ∧
    ieeeNumerics.add .single .rdn 0x3f800000 0xbf800000 = (0x80000000, 0#5) ∧
    ieeeNumerics.div .single .rne 0x3f800000 0x40400000 = (0x3eaaaaab, flagNX) ∧
    ieeeNumerics.sqrt .single .rne 0x40000000 = (0x3fb504f3, flagNX) := by decide +kernel

theorem witness_FpArithmetic :
    atAddi.resolveRm .rmm = some .rmm ∧ ({ atAddi with frm := 4#3 } : State).resolveRm .dyn = some .rmm ∧
    atAddi.cfg.isa.hasF = true ∧ atAddi.cfg.isa.hasD = true := by decide +kernel

theorem witness_FpSignMinMax : atAddi.cfg.isa.hasF = true ∧ atAddi.cfg.isa.hasD = true := by decide

theorem witness_FpCompareClassify : atAddi.cfg.isa.hasF = true ∧ atAddi.cfg.isa.hasD = true := by decide

theorem witness_FpConversions :
    atAddi.resolveRm .rtz = some .rtz ∧ atAddi.cfg.isa.hasF = true ∧ atAddi.cfg.isa.hasD = true := by
  decide +kernel

theorem witness_RoundingModeOfInstruction :
    ((Instr.faddS 1#5 2#5 3#5 .dyn).wf atAddi.cfg.isa = true ∧
      rmOf (.faddS 1#5 2#5 3#5 .dyn) = some .dyn ∧
      ({ atAddi with frm := 5#3 } : State).resolveRm .dyn = none ∧
      ({ atAddi with frm := 7#3 } : State).resolveRm .dyn = none) ∧
    (RmField.rmm.code.toNat = 4 ∧ RmField.dyn.code.toNat = 7) ∧
    (atRm5.outcome = .running ∧ atRm5.fetch = .got (.full 0x00005053#32) ∧
      (0x00005053#32).extractLsb' 0 7 = 0b1010011#7 ∧ (0x00005053#32).extractLsb' 12 3 = 5#3) := by
  decide +kernel

theorem witness_RoundingAtAPlace :
    (0 < 1 ∧ 6 % 2 ^ 1 = 0 ∧ 7 % 2 ^ 1 ≠ 0 ∧ 2 * (7 % 2 ^ 1) = 2 ^ 1) ∧
    Prec.single.round .rne false 0x1ffffff 104 = (0x7f800000, flagOF ||| flagNX) ∧
    Prec.single.round .rtz true 0x1ffffff 104 = (0xff7fffff, flagOF ||| flagNX) ∧
    Prec.single.round .rne false 0x1ffffff (-149) = (0x01800000, flagNX) ∧
    Prec.single.round .rtz false 3 (-150) = (1, flagUF ||| flagNX) ∧
    Prec.single.round .rtz false 1 (-149) = (1, 0#5) ∧
    Prec.single.round .rne false 0x1ffffff (-151) = (0x00800000, flagNX) ∧
    Prec.single.round .rne false 0x1fffffe (-151) = (0x00800000, flagUF ||| flagNX) ∧
    roundAt .rup false 3 5 3 = (12, false) ∧ roundAt .rup false 3 5 5 = (3, false) := by decide +kernel

/-- The largest finite single and the smallest subnormal double. -/
theorem witness_RepresentableRoundsToItself :
    (0x7f7fffff < 2 ^ (Prec.single.ebits + Prec.single.fbits + 1) ∧
      Prec.single.unpack 0x7f7fffff = .finite false 0xffffff 104) ∧
    (0x8000000000000001 < 2 ^ (Prec.double.ebits + Prec.double.fbits + 1) ∧
      Prec.double.unpack 0x8000000000000001 = .finite true 1 (-1074)) := by decide +kernel

theorem witness_CompressedArithmetic :
    atNop.cfg.isa.hasC = true ∧ (255#8 : BitVec 8) ≠ 0#8 ∧ ((0#5 : Reg) ≠ 0#5 ∨ (63#6 : BitVec 6) ≠ 0#6) ∧
    ((31#5 : Reg) ≠ 2#5 ∧ (31#5 : Reg) ≠ 0#5) := by decide

theorem witness_CompressedMemory :
    (atTop rv32).cfg.isa.hasC = true ∧ (atTop rv32).mem.wf = true ∧
    (let s := atTop rv32
     let ea := s.ea (CReg.reg 3#3) (immCw 31#5)
     ea.toNat % 4 = 0 ∧ ∀ a ∈ s.accessAddrs ea 4, s.canRead a = true ∧ s.canWrite a = true) ∧
    (let s := machine rv32 [(2#5, 0xfffffe08#64)] [] []
     let ea := s.ea 2#5 (immCdsp 63#6)
     ea.toNat = 0 ∧ ea.toNat % 8 = 0 ∧
       ∀ a ∈ s.accessAddrs ea 8, s.canRead a = true ∧ s.canWrite a = true) ∧
    (31#5 : Reg) ≠ 0#5 ∧ (atTop rv32).cfg.isa.hasF = true ∧ (atTop rv32).cfg.isa.hasD = true := by
  decide +kernel

theorem witness_CompressedControl :
    corner.cfg.isa.hasC = true ∧ (31#5 : Reg) ≠ 0#5 ∧
    corner.ux (CReg.reg 2#3) ≠ 0 ∧ (machine rv32 [(10#5, 0#64)] [] []).ux (CReg.reg 2#3) = 0 := by
  decide +kernel

/-! ## How a program comes to run -/

/-- From reset with an instruction placed where the next step fetches, the step runs it. -/
theorem test_withFetchWord :
    stepsTo (State.reset.withFetchWord 32 0x00158513) (fun t => t.pc == 0x1004#64) = true ∧
    stepsTo (State.reset.withFetchWord 32 0x0015851b) (fun t => t.pc == 0x1004#64) = true := by
  decide +kernel

/-- From reset with nothing placed the machine fetches the drawn byte and faults. -/
theorem test_reset_nothing_placed :
    stepsTo State.reset (fun t => t.outcome ==
      .faulted (.exception .illegalInstruction) 0xffffffff#64 0x1000#64) = true := by decide +kernel


/-- The last byte of an access at the top of the address space. -/
theorem witness_EffectiveAddressWraps :
    7 < 8 ∧ ((atTop rv32).accessAddrs ((atTop rv32).ea 11#5 (immI 0#12)) 8)[7]? = some 3 := by
  decide +kernel

/-- A jump target that is aligned and one that is not, on a machine without `C`. -/
theorem witness_JumpAndLink :
    ((0xfffffffe#64).toNat + 2 * (1#20).toInt) % 2 ^ 32 % (rv32NoC.isa.ialignBytes : Int) = 0 ∧
    ((0xfffffffe#64).toNat + 2 * (2#20).toInt) % 2 ^ 32 % (rv32NoC.isa.ialignBytes : Int) ≠ 0 := by
  decide

end Sys2Proof.Tests
end

section
/-! The outcome record: a raise under `TRAP_LAYER = fault` writes it, and a machine whose record is
written is stuck (`spec/10_state.md` R49). -/

namespace Sys2Proof.Machine

/-- The fault branch of `State.raise_cases`; under this layer the handler is never entered. -/
theorem State.raise_of_fault {s : State} (e : Exc) (info : Word) (hlayer : s.cfg.trapLayer = .fault) :
    s.raise e info = s.stop (.exception e) info := by
  obtain ⟨-, hraise⟩ | ⟨hmmode, -⟩ := s.raise_cases e info
  · exact hraise
  · simp [hlayer] at hmmode

/-- Neither fetch nor decode is reached once the outcome record is written. -/
theorem step_of_faulted {s : State} {why : StopReason} {info pc : Word}
    (hfaulted : s.outcome = .faulted why info pc) : step s = .fault (.halted why info pc) := by
  simp [step, hfaulted]

/-- Settles O11: the record is the one `State.stop` writes, and `step` looks at the record first. -/
theorem haltedMachine : Obligations.HaltedMachine := by
  refine ⟨fun s e info hlayer => ?raised, fun s why info pc hfaulted => step_of_faulted hfaulted⟩
  case raised => rw [State.raise_of_fault e info hlayer, State.stop_outcome]

end Sys2Proof.Machine
end

section
/-! Effective addresses: the sum of a register and a signed offset, and the bytes of the access that
starts there, are taken modulo `2^XLEN` (`spec/20_memory.md` R89). -/

namespace Sys2Proof.Machine

theorem natCast_mod_two_pow (n k : Nat) : ((n % 2 ^ k : Nat) : Int) = (n : Int) % 2 ^ k := by
  rw [Int.natCast_emod, Int.natCast_pow, Int.cast_ofNat_Int]

/-- What is congruent modulo the width of a slot is congruent modulo `2^XLEN`. -/
theorem Xlen.two_pow_bits_dvd (x : Xlen) : (2 : Int) ^ x.bits ∣ 2 ^ 64 := by
  cases x <;> decide

/-- A slot wraps at `2^64`, which does not show modulo `2^XLEN`. -/
theorem Xlen.emod_slot_emod (x : Xlen) (a : Int) : a % 2 ^ 64 % 2 ^ x.bits = a % 2 ^ x.bits :=
  Int.emod_emod_of_dvd a (Xlen.two_pow_bits_dvd x)

/-- The unsigned and the signed reading of a slot differ by a multiple of `2^64`. -/
theorem Xlen.toNat_emod_eq_toInt_emod (x : Xlen) (v : Word) :
    (v.toNat : Int) % 2 ^ x.bits = v.toInt % 2 ^ x.bits := by
  have hslot : (v.toNat : Int) % 2 ^ 64 = v.toInt % 2 ^ 64 := by
    rw [BitVec.toInt_eq_toNat_bmod]
    exact (Int.bmod_emod (x := v.toNat) (m := 2 ^ 64)).symm
  rw [← Xlen.emod_slot_emod x v.toNat, hslot, Xlen.emod_slot_emod]

theorem Xlen.toNat_add_emod (x : Xlen) (v w : Word) :
    ((v + w).toNat : Int) % 2 ^ x.bits = (v.toNat + w.toNat) % 2 ^ x.bits := by
  have hslot : ((v + w).toNat : Int) = (v.toNat + w.toNat) % 2 ^ 64 := by
    rw [BitVec.toNat_add, natCast_mod_two_pow, Int.natCast_add]
  rw [hslot, Xlen.emod_slot_emod]

/-- A base plus a signed offset, cut to `XLEN` bits. -/
theorem Xlen.toNat_narrow_add (x : Xlen) (v w : Word) :
    ((x.narrow (v + w)).toNat : Int) = (x.unsigned v + w.toInt) % 2 ^ x.bits := calc
  ((x.narrow (v + w)).toNat : Int)
  _ = ((v + w).toNat : Int) % 2 ^ x.bits := by
      rw [Xlen.toNat_narrow, natCast_mod_two_pow]
  _ = (v.toNat + w.toNat) % 2 ^ x.bits := Xlen.toNat_add_emod x v w
  _ = (v.toNat % 2 ^ x.bits + w.toInt % 2 ^ x.bits) % 2 ^ x.bits := by
      rw [Int.add_emod, Xlen.toNat_emod_eq_toInt_emod x w]
  _ = (x.unsigned v + w.toInt) % 2 ^ x.bits := by
      rw [Int.add_emod_emod, Xlen.unsigned_eq, natCast_mod_two_pow]

theorem State.toNat_ea (s : State) (rs1 : Reg) (off : Word) :
    ((s.ea rs1 off).toNat : Int) = (s.ux rs1 + off.toInt) % 2 ^ s.xlen.bits :=
  Xlen.toNat_narrow_add s.xlen (s.readX rs1) off

@[simp] theorem toInt_immI (imm : BitVec 12) : (immI imm).toInt = imm.toInt :=
  BitVec.toInt_signExtend_of_le (by decide)

theorem State.accessAddrs_getElem? (s : State) (ea : Word) {n k : Nat} (hk : k < n) :
    (s.accessAddrs ea n)[k]? = some ((ea.toNat + k) % 2 ^ s.xlen.bits) := by
  simp only [State.accessAddrs, List.getElem?_map, List.getElem?_range hk, Option.map_some]

/-- Settles O22: the 64-bit sum is congruent to the exact one modulo `2^XLEN`, and `accessAddrs` wraps
each address by itself. -/
theorem effectiveAddressWraps : Obligations.EffectiveAddressWraps := by
  refine fun s rs1 imm => ⟨?base, fun n k hk => s.accessAddrs_getElem? _ hk⟩
  case base => rw [State.toNat_ea, toInt_immI]

end Sys2Proof.Machine
end

section
/-! Fetching and the decoder's rejections: the length of an instruction, and what a step does with bits
that no row accepts (`spec/20_memory.md` R75, `spec/30_encoding.md` R101, R121, R122, R131). -/

namespace Sys2Proof.Machine

/-! ## Bytes and parcels -/

/-- A byte put below a shifted value: no bit of one meets a bit of the other. -/
theorem setWidth_or_shiftLeft (b : Byte) (v : Word) :
    b.setWidth 64 ||| v <<< 8 = b.setWidth 64 + v <<< 8 := by
  refine (BitVec.add_eq_or_of_and_eq_zero _ _ ?disjoint).symm
  case disjoint =>
    ext k hk
    by_cases hlow : k < 8
    · simp [hlow]
    · simp [BitVec.getLsbD_of_ge b k (by omega)]

/-- A load gathers the number in the bytes, modulo the width of a slot. -/
theorem Memory.readLE_eq_ofNat_byteSum (m : Memory) (as : List Nat) :
    m.readLE as = BitVec.ofNat 64 (byteSum m as) := by
  induction as with
  | nil => rfl
  | cons a as ih =>
    rw [Memory.readLE, setWidth_or_shiftLeft, ih]
    apply BitVec.eq_of_toNat_eq
    simp only [byteSum, BitVec.toNat_add, BitVec.toNat_setWidth, BitVec.toNat_shiftLeft,
      BitVec.toNat_ofNat, Nat.shiftLeft_eq]
    omega

theorem State.parcelAt_eq_ofNat_byteSum (s : State) (a : Word) :
    s.parcelAt a = BitVec.ofNat 16 (byteSum s.mem (s.accessAddrs a 2)) := by
  rw [State.parcelAt, Memory.readLE_eq_ofNat_byteSum]
  exact BitVec.setWidth_ofNat_of_le (by decide) _

theorem isFull_iff (lo : BitVec 16) : isFull lo = true ↔ lo.extractLsb' 0 2 = 0b11#2 := by
  simp [isFull]

theorem State.parcelExec_iff (s : State) (a : Word) :
    s.parcelExec a = true ↔ ∀ b ∈ s.accessAddrs a 2, s.canExec b = true := by
  simp [State.parcelExec]

theorem State.parcelModified_eq_false_iff (s : State) (a : Word) :
    s.parcelModified a = false ↔ ∀ b ∈ s.accessAddrs a 2, b ∉ s.modified := by
  simp [State.parcelModified]

/-! ## Fetching -/

/-- The two forms of what a fetch gives (R101). -/
theorem State.fetch_got_cases {s : State} {x : Fetched} (hfetch : s.fetch = .got x) :
    (isFull (s.parcelAt s.pc) = true ∧ x = .full (s.parcelAt (s.pc + 2#64) ++ s.parcelAt s.pc)) ∨
    (isFull (s.parcelAt s.pc) = false ∧ x = .half (s.parcelAt s.pc)) := by
  simp only [State.fetch] at hfetch
  split at hfetch
  next => cases hfetch
  next =>
    split at hfetch
    next hfull =>
      split at hfetch
      next => cases hfetch
      next =>
        split at hfetch
        next => cases hfetch
        next => exact .inl ⟨hfull, (FetchResult.got.inj hfetch).symm⟩
    next hhalf =>
      split at hfetch
      next => cases hfetch
      next => exact .inr ⟨eq_false_of_ne_true hhalf, (FetchResult.got.inj hfetch).symm⟩

/-- A parcel that is an instruction by itself: the fetch looks at its two bytes alone. -/
theorem State.fetch_of_half {s : State} (hhalf : isFull (s.parcelAt s.pc) = false)
    (hexec : s.parcelExec s.pc = true) (hfresh : s.parcelModified s.pc = false) :
    s.fetch = .got (.half (s.parcelAt s.pc)) := by
  simp [State.fetch, hhalf, hexec, hfresh]

/-! ## Rejected bits -/

/-- No row has the bits, on any machine. -/
theorem rejected_of_decodeBits_error {x : Fetched} {r : Reject} (isa : Isa)
    (hbits : decodeBits x = .error r) : Rejected isa x :=
  ⟨r, by simp [decode, hbits]⟩

/-- A row has the bits, but it is not one of this machine or its side condition fails (R121). -/
theorem rejected_of_illFormed {isa : Isa} {x : Fetched} {i : Instr} {why : IllFormed}
    (hbits : decodeBits x = .ok i) (hill : i.illFormed isa = some why) : Rejected isa x :=
  ⟨.illFormed why, by simp [decode, hbits, hill]⟩

/-- R120 lists no `op` of all ones. -/
theorem decodeFull_of_op_ones {w : BitVec 32} (hop : w.extractLsb' 0 7 = 0b1111111#7) :
    decodeFull w = .error .unlistedOpcode := by
  simp [decodeFull, fOp, hop]

/-- The 16-bit value 0 has the bits of `c.addi4spn` with immediate 0, which is reserved where `C` is
and no instruction where it is not. -/
theorem rejected_half_zero (isa : Isa) : Rejected isa (.half 0#16) := by
  have hbits : decodeBits (.half 0#16) = .ok (.cAddi4spn 0#3 0#8) := rfl
  cases hC : isa.hasC
  case false =>
    exact rejected_of_illFormed (why := .needsC) hbits
      (by simp [Instr.illFormed, IllFormed.unless, hC])
  case true =>
    exact rejected_of_illFormed (why := .zeroImmediate) hbits
      (by simp [Instr.illFormed, IllFormed.unless, hC])

/-! ## Steps -/

theorem step_of_done {s t : State} (hrun : s.Running) (hdone : s.fetchDecode = .done t) :
    step s = .next t := by
  rw [State.Running] at hrun
  simp [step, hrun, hdone]

theorem State.fetchDecode_of_rejected {s : State} {x : Fetched} (hfetch : s.fetch = .got x)
    (hrej : Rejected s.cfg.isa x) :
    s.fetchDecode = .done (s.raise .illegalInstruction x.bits) := by
  obtain ⟨r, hr⟩ := hrej
  simp [State.fetchDecode, hfetch, hr]

/-- Settles O12: a rejected fetch ends in fetch and decode, before any instruction runs. -/
theorem unlistedEncodingRaises : Obligations.UnlistedEncodingRaises :=
  fun _ _ hrun hfetch hrej => step_of_done hrun (State.fetchDecode_of_rejected hfetch hrej)

/-- Settles O7, by the two forms of what a fetch gives. -/
theorem lengthOfInstruction : Obligations.LengthOfInstruction := by
  refine ⟨fun s x hfetch => ?length, fun isa w hop => ?ones⟩
  case length =>
    rw [ne_eq, ← isFull_iff]
    obtain ⟨hfull, rfl⟩ | ⟨hhalf, rfl⟩ := State.fetch_got_cases hfetch
    · exact ⟨fun _ => ⟨_, rfl⟩, fun hnot => absurd hfull hnot⟩
    · exact ⟨fun hfull => by simp [hhalf] at hfull, fun _ => rfl⟩
  case ones => exact rejected_of_decodeBits_error isa (x := .full w) (decodeFull_of_op_ones hop)

/-- Settles O13: the zero parcel is fetched by itself, and it is rejected on every machine. -/
theorem zeroParcelIsIllegal : Obligations.ZeroParcelIsIllegal := by
  intro s hrun hzero hbytes
  have hparcel : s.parcelAt s.pc = 0#16 := by rw [State.parcelAt_eq_ofNat_byteSum, hzero]
  have hexec := (s.parcelExec_iff s.pc).2 fun a ha => (hbytes a ha).1
  have hfresh := (s.parcelModified_eq_false_iff s.pc).2 fun a ha => (hbytes a ha).2
  have hfetch : s.fetch = .got (.half 0#16) := by
    rw [State.fetch_of_half (by rw [hparcel]; rfl) hexec hfresh, hparcel]
  exact unlistedEncodingRaises s (.half 0#16) hrun hfetch (rejected_half_zero s.cfg.isa)

end Sys2Proof.Machine
end

section
/-! The rounding mode of an instruction: the encoding carries the field, the mode is the field or `frm`,
and a mode that does not resolve and a reserved field both raise (`spec/30_encoding.md` R118,
`spec/42_rvfd.md` R231). -/

namespace Sys2Proof.Machine

/-! ## The modes by number -/

/-- A field other than 7 names the mode that its number names in `frm`. -/
theorem State.resolveRm_eq_frmMode (s : State) (rm : RmField) :
    s.resolveRm rm = frmMode (if rm.code.toNat = 7 then s.frm else rm.code) := by
  cases rm <;> rfl

theorem frmMode_by_number (c : BitVec 3) :
    (c.toNat = 0 → frmMode c = some .rne) ∧ (c.toNat = 1 → frmMode c = some .rtz) ∧
    (c.toNat = 2 → frmMode c = some .rdn) ∧ (c.toNat = 3 → frmMode c = some .rup) ∧
    (c.toNat = 4 → frmMode c = some .rmm) ∧ (5 ≤ c.toNat → frmMode c = none) := by
  revert c
  decide

/-! ## The field in the encoding -/

@[simp] theorem fFunct3_encR (funct7 : BitVec 7) (rs2 rs1 : Reg) (funct3 : BitVec 3) (rd : Reg)
    (op : BitVec 7) : fFunct3 (encR funct7 rs2 rs1 funct3 rd op) = funct3 := by
  simp only [fFunct3, encR]
  rw [BitVec.extractLsb'_append_eq_of_le (by decide), BitVec.extractLsb'_append_eq_of_le (by decide),
    BitVec.extractLsb'_append_eq_of_add_le (by decide), BitVec.extractLsb'_eq_self]

/-- The rows with a rounding mode are R-type with the mode in `funct3`; an R4-type row is one whose
`funct7` is `fs3` and `fmt`. -/
theorem encode_of_rmOf {i : Instr} {rm : RmField} (hrm : rmOf i = some rm) :
    ∃ funct7 rs2 rs1 rd op, encode i = .full (encR funct7 rs2 rs1 rm.code rd op) := by
  unfold rmOf at hrm
  split at hrm <;> cases hrm
  all_goals exact ⟨_, _, _, _, _, rfl⟩

/-! ## A mode that does not resolve -/

/-- The meaning of a row with a rounding mode resolves the mode before it does anything else. -/
theorem exec_of_rmOf {i : Instr} {rm : RmField} (s : State) (hrm : rmOf i = some rm) :
    ∃ k : State → RoundMode → State,
      exec i s = .next (s.listed i fun s => s.withRm i rm (k s)) := by
  unfold rmOf at hrm
  split at hrm <;> cases hrm
  all_goals exact ⟨_, rfl⟩

theorem State.listed_of_wf {s : State} {i : Instr} (k : State → State)
    (hwf : i.wf s.cfg.isa = true) : s.listed i k = k s := by
  obtain ⟨-, hrun⟩ | ⟨hill, -⟩ := s.listed_cases i k
  · exact hrun
  · simp [hwf] at hill

theorem State.withRm_of_unresolved {s : State} {rm : RmField} (i : Instr) (k : RoundMode → State)
    (hnone : s.resolveRm rm = none) :
    s.withRm i rm k = s.raise .illegalInstruction (encode i).bits := by
  obtain ⟨mode, hmode, -⟩ | ⟨-, hraise⟩ := s.withRm_cases i rm k
  · simp [hnone] at hmode
  · exact hraise

theorem raises_of_unresolved_rm {s : State} {i : Instr} {rm : RmField}
    (hwf : i.wf s.cfg.isa = true) (hrm : rmOf i = some rm) (hnone : s.resolveRm rm = none) :
    Raises s i .illegalInstruction (encode i).bits := by
  obtain ⟨k, hexec⟩ := exec_of_rmOf s hrm
  rw [Raises, hexec, State.listed_of_wf _ hwf, State.withRm_of_unresolved i (k s) hnone]

/-! ## A reserved field -/

/-- The two values of `funct3` that are no rounding mode (R118). -/
def ReservedRm (w : BitVec 32) : Prop := fFunct3 w = 5#3 ∨ fFunct3 w = 6#3

section
variable {w : BitVec 32} (hres : ReservedRm w)
include hres

theorem ofCode_of_reservedRm : RmField.ofCode (fFunct3 w) = none := by
  obtain h | h := hres <;> rw [h] <;> rfl

theorem withRmField_of_reservedRm (k : RmField → Instr) :
    withRmField w k = .error .reservedRoundingMode := by
  rw [withRmField, ofCode_of_reservedRm hres]

theorem decodeR4_of_reservedRm (single double : Reg → Reg → Reg → Reg → RmField → Instr) :
    ∃ r, decodeR4 w single double = .error r := by
  unfold decodeR4
  split <;> simp [withRmField_of_reservedRm hres]

theorem decodeFp1_of_reservedRm (c : Reg) (k : Reg → Reg → RmField → Instr) :
    ∃ r, decodeFp1 w c k = .error r := by
  unfold decodeFp1
  split <;> simp [withRmField_of_reservedRm hres]

theorem decodeCvt_of_reservedRm (signed unsigned : Reg → Reg → RmField → Instr) :
    ∃ r, decodeCvt w signed unsigned = .error r := by
  unfold decodeCvt
  split <;> simp [withRmField_of_reservedRm hres]

theorem decodeFpRR_of_reservedRm (k : Reg → Reg → Reg → RmField → Instr) :
    ∃ r, decodeFpRR w k = .error r :=
  ⟨_, withRmField_of_reservedRm hres _⟩

theorem decodeSgnj_of_reservedRm (j jn jx : Reg → Reg → Reg → Instr) :
    decodeSgnj w j jn jx = .error .unlistedMinor := by
  obtain h | h := hres <;> simp [decodeSgnj, h]

theorem decodeMinMax_of_reservedRm (mn mx : Reg → Reg → Reg → Instr) :
    decodeMinMax w mn mx = .error .unlistedMinor := by
  obtain h | h := hres <;> simp [decodeMinMax, h]

theorem decodeCmp_of_reservedRm (le lt eq : Reg → Reg → Reg → Instr) :
    decodeCmp w le lt eq = .error .unlistedMinor := by
  obtain h | h := hres <;> simp [decodeCmp, h]

/-- Of op `1010011`, also the rows without a rounding mode have none at these values: there `funct3` tells
rows apart, in the moves and `fclass` below as in the helpers above (R136). -/
theorem decodeOpFp_of_reservedRm : ∃ r, decodeOpFp w = .error r := by
  unfold decodeOpFp
  split
  case h_17 | h_18 | h_23 => obtain h | h := hres <;> simp [h]
  all_goals
    simp [decodeFpRR_of_reservedRm hres, decodeFp1_of_reservedRm hres,
      decodeCvt_of_reservedRm hres, decodeSgnj_of_reservedRm hres, decodeMinMax_of_reservedRm hres,
      decodeCmp_of_reservedRm hres]

/-- The five ops are those of the fused rows, and that of all the other floating-point rows but loads and
stores (R120). -/
theorem decodeFull_of_reservedRm
    (hop : fOp w = 0b1000011#7 ∨ fOp w = 0b1000111#7 ∨ fOp w = 0b1001011#7 ∨ fOp w = 0b1001111#7 ∨
      fOp w = 0b1010011#7) : ∃ r, decodeFull w = .error r := by
  unfold decodeFull
  obtain h | h | h | h | h := hop <;> rw [h]
  case inr.inr.inr.inr => exact decodeOpFp_of_reservedRm hres
  all_goals exact decodeR4_of_reservedRm hres _ _

end

/-- Settles O55: a mode is checked before anything else of its instruction, and with a reserved field no
row of the five ops is left. -/
theorem roundingModeOfInstruction : Obligations.RoundingModeOfInstruction := by
  refine ⟨fun s i rm hwf hrm => ⟨?field, raises_of_unresolved_rm hwf hrm⟩, fun s rm => ?mode,
    fun s w hrun hfetch hop hres => ?reserved⟩
  case field =>
    obtain ⟨funct7, rs2, rs1, rd, op, henc⟩ := encode_of_rmOf hrm
    exact ⟨_, henc, fFunct3_encR funct7 rs2 rs1 rm.code rd op⟩
  case mode =>
    simp only [State.resolveRm_eq_frmMode, ← apply_ite BitVec.toNat]
    exact frmMode_by_number _
  case reserved =>
    obtain ⟨r, hbits⟩ := decodeFull_of_reservedRm hres hop
    exact unlistedEncodingRaises s (.full w) hrun hfetch (rejected_of_decodeBits_error _ hbits)

end Sys2Proof.Machine
end

section
/-! Splitting a 32-bit value: what `hi20` and `lo12` are in arithmetic, and why the increment by bit 11
compensates the sign of the low half (`spec/45_pseudo.md` R423). -/

namespace Sys2Proof.Machine

theorem toNat_lo12 (v : BitVec 32) : (lo12 v).toNat = v.toNat % 4096 := by
  simp [lo12]

theorem toNat_hi20 (v : BitVec 32) :
    (hi20 v).toNat = (v.toNat / 4096 + v.toNat / 2048 % 2) % 2 ^ 20 := by
  simp [hi20, Nat.shiftRight_eq_div_pow]

theorem toNat_hi20_append (v : BitVec 32) :
    (hi20 v ++ 0#12 : BitVec 32).toNat = (hi20 v).toNat * 4096 := by
  rw [BitVec.toNat_append, Nat.shiftLeft_eq, BitVec.toNat_zero, Nat.or_zero]

/-- The sign of the low half is bit 11 of the value: extending it adds `2^32 - 4096`, which is 4096 less
modulo `2^32`. -/
theorem toNat_signExtend_lo12 (v : BitVec 32) :
    ((lo12 v).signExtend 32).toNat = v.toNat % 4096 + v.toNat / 2048 % 2 * (2 ^ 32 - 4096) := by
  rw [BitVec.toNat_signExtend, BitVec.toNat_setWidth, BitVec.msb_eq_decide, toNat_lo12]
  simp only [decide_eq_true_eq]
  split
  case isTrue hneg => omega
  case isFalse hnonneg => omega

/-- The increment of the upper half stands for the 4096 that a negative low half takes away. -/
theorem hi20_append_add_lo12 (v : BitVec 32) :
    (hi20 v ++ 0#12 : BitVec 32) + (lo12 v).signExtend 32 = v := by
  apply BitVec.eq_of_toNat_eq
  rw [BitVec.toNat_add, toNat_hi20_append, toNat_signExtend_lo12, toNat_hi20]
  omega

/-- Settles O43: the two halves recombine, and each asterisk row of Table B.7 is defined by them. -/
theorem splitImmediate : Obligations.SplitImmediate :=
  fun v _ _ _ _ =>
    ⟨toNat_lo12 v, toNat_hi20 v, hi20_append_add_lo12 v, rfl, rfl, rfl, rfl, rfl⟩

end Sys2Proof.Machine
end

section
/-! Return from a trap: when `mret` passes its checks, and what it leaves under `TRAP_LAYER = mmode`
(`spec/46_priv_csr.md` R445, `spec/60_exceptions.md` R481). -/

namespace Sys2Proof.Machine

/-! ## Registers by number -/

/-- No two of the registers that the spec describes share a number (`spec/10_state.md` R43 to R45). -/
theorem csrNumber_injective : Function.Injective csrNumber := by
  intro a b
  cases a <;> cases b <;> simp [csrNumber]

theorem State.namedCsr_of_hasCsr {s : State} {c : Csr} (hc : s.hasCsr c = true) :
    s.namedCsr (csrNumber c) = some c := by
  have hmem : c ∈ s.cfg.csrFile := by simpa [State.hasCsr] using hc
  cases hfind : s.namedCsr (csrNumber c) with
  | none =>
    have hdiffers := List.find?_eq_none.1 hfind c hmem
    simp at hdiffers
  | some d =>
    have hnumber : csrNumber d = csrNumber c := by simpa using List.find?_some hfind
    rw [csrNumber_injective hnumber]

theorem State.readCsr_of_hasCsr {s : State} {c : Csr} (hc : s.hasCsr c = true) :
    s.readCsr (csrNumber c) = s.readNamed c := by
  rw [State.readCsr, State.namedCsr_of_hasCsr hc]

/-! ## The checks of `mret` -/

theorem Priv.below_m_eq_false_iff (p : Priv) : p.below .m = false ↔ p = .m := by
  cases p <;> decide

@[simp] theorem mret_wf (isa : Isa) : Instr.wf isa .mret = isa.s := by
  cases hS : isa.s <;> simp [Instr.wf, Instr.illFormed, IllFormed.unless, hS]

/-- An `mret` that passes its checks (R445). -/
theorem exec_mret_of_allowed {s : State} (hS : s.cfg.isa.s = true) (hmepc : s.hasCsr .mepc = true)
    (hM : s.priv = .m) : exec .mret s = .next s.machineReturn := by
  have hbelow : s.priv.below .m = false := (Priv.below_m_eq_false_iff _).2 hM
  simp [exec, execMret, State.listed, hS, hbelow, hmepc]

/-- An `mret` is illegal, or it is run in mode M. -/
theorem exec_mret_cases (s : State) :
    exec .mret s = .next (s.illegal .mret) ∨
    (s.priv = .m ∧ exec .mret s = .next s.machineReturn) := by
  simp only [exec, execMret, State.listed]
  split
  next =>
    split
    next => exact .inl rfl
    next hpass =>
      simp only [Bool.or_eq_true, not_or, Bool.not_eq_true, Priv.below_m_eq_false_iff] at hpass
      obtain ⟨hM, -⟩ := hpass
      exact .inr ⟨hM, rfl⟩
  next => exact .inl rfl

/-! ## What it leaves -/

theorem PrivModes.lowest_eq_ite_has_u (modes : PrivModes) :
    modes.lowest = if modes.has .u then .u else .m := by
  cases modes <;> rfl

theorem State.machineReturn_of_mmode {s : State} (hlayer : s.cfg.trapLayer = .mmode) :
    s.machineReturn = (s.returnTo s.mepc).popStatus := by
  simp [State.machineReturn, hlayer]

theorem State.machineReturn_of_fault {s : State} (hlayer : s.cfg.trapLayer = .fault) :
    s.machineReturn = s.returnTo s.mepc := by
  simp [State.machineReturn, hlayer]

/-- Settles O16: the checks pass, and what `mepc` reads as is the address returned to. -/
theorem machineReturn : Obligations.MachineReturn := by
  intro s hS hlayer hmepc hM
  have hread : s.readCsr 0x341#12 = s.cfg.isa.alignPc s.mepc := State.readCsr_of_hasCsr hmepc
  rw [exec_mret_of_allowed hS hmepc hM, State.machineReturn_of_mmode hlayer, hread,
    ← PrivModes.lowest_eq_ite_has_u]
  rfl

end Sys2Proof.Machine
end

section
/-! The privilege mode: a step keeps it, or enters the handler of a trap, or is an `mret`
(`spec/60_exceptions.md` R478). Each shared operation keeps the mode or traps; an instruction is made
of these. -/

namespace Sys2Proof.Machine

/-- What entry into the handler shows of the state it started from (R480). -/
structure TrapEntered (s t : State) : Prop where
  layer : s.cfg.trapLayer = .mmode
  priv : t.priv = .m
  pc : t.pc = s.mtvec &&& ~~~3#64
  mpp : t.mpp = s.priv
  x : t.x = s.x
  f : t.f = s.f

/-- The transitions of every instruction but `mret`. -/
def StaysOrTraps (s t : State) : Prop := t.priv = s.priv ∨ TrapEntered s t

theorem StaysOrTraps.priv_of_fault {s t : State} (h : StaysOrTraps s t)
    (hlayer : s.cfg.trapLayer = .fault) : t.priv = s.priv := by
  obtain hstays | htraps := h
  · exact hstays
  · have hmmode := htraps.layer
    simp [hlayer] at hmmode

/-! ## Raising -/

theorem State.raise_priv_of_mmode {s : State} (e : Exc) (info : Word)
    (hlayer : s.cfg.trapLayer = .mmode) : (s.raise e info).priv = .m := by
  obtain ⟨hfault, -⟩ | ⟨-, hraise⟩ := s.raise_cases e info
  · simp [hlayer] at hfault
  · rw [hraise, State.trapEntry_priv]

/-- A raise, perhaps after some bytes of a split store have been written. -/
theorem StaysOrTraps.raise_after_stores (s : State) (m : Memory) (stored : List Nat) (n : Nat) (e : Exc)
    (info : Word) :
    StaysOrTraps s ({ s with mem := m, modified := stored, draws := n }.raise e info) := by
  obtain ⟨-, hraise⟩ | ⟨hlayer, hraise⟩ :=
    State.raise_cases { s with mem := m, modified := stored, draws := n } e info
  · rw [hraise]
    exact .inl rfl
  · rw [hraise]
    exact .inr ⟨hlayer, rfl, rfl, rfl, rfl, rfl⟩

theorem StaysOrTraps.raise (s : State) (e : Exc) (info : Word) : StaysOrTraps s (s.raise e info) :=
  .raise_after_stores s s.mem s.modified s.draws e info

/-! ## Guards -/

section
variable {s : State}

theorem StaysOrTraps.listed {i : Instr} {k : State → State} (hk : StaysOrTraps s (k s)) :
    StaysOrTraps s (s.listed i k) := by
  obtain ⟨-, hrun⟩ | ⟨-, hraise⟩ := s.listed_cases i k
  · rwa [hrun]
  · rw [hraise]
    exact .raise s _ _

theorem StaysOrTraps.withRm {i : Instr} {rm : RmField} {k : RoundMode → State}
    (hk : ∀ mode, StaysOrTraps s (k mode)) : StaysOrTraps s (s.withRm i rm k) := by
  obtain ⟨mode, -, hrun⟩ | ⟨-, hraise⟩ := s.withRm_cases i rm k
  · rw [hrun]
    exact hk mode
  · rw [hraise]
    exact .raise s _ _

theorem StaysOrTraps.ite {c : Prop} [Decidable c] {t u : State} (ht : StaysOrTraps s t)
    (hu : StaysOrTraps s u) : StaysOrTraps s (if c then t else u) := by
  split
  next => exact ht
  next => exact hu

/-! ## Register writes -/

theorem StaysOrTraps.setRd {rd : Reg} {v : Word} {ilen : Nat} :
    StaysOrTraps s (s.setRd rd v ilen) := by
  left
  rw [State.setRd, State.advance_priv, State.writeX_priv]

theorem StaysOrTraps.fpToX {rd : Reg} {v : Word} {flags : FlagSet} :
    StaysOrTraps s (s.fpToX rd v flags) := by
  left
  rw [State.fpToX, State.advance_priv, State.raiseFlags_priv, State.writeX_priv]

theorem State.wrP_priv (s : State) (p : Prec) (fd : Reg) (v : Nat) :
    (s.wrP p fd v).priv = s.priv := by
  cases p <;> rfl

theorem StaysOrTraps.fpResult {p : Prec} {fd : Reg} {res : Nat × FlagSet} :
    StaysOrTraps s (s.fpResult p fd res) := by
  left
  rw [State.fpResult, State.advance_priv, State.raiseFlags_priv, State.wrP_priv]

/-! ## Control transfer -/

theorem StaysOrTraps.transfer {target : Word} {k : State → State}
    (hk : (k s).priv = s.priv) : StaysOrTraps s (s.transfer target k) := by
  obtain ⟨-, hgoes⟩ | ⟨-, hraise⟩ := s.transfer_cases target k
  · left
    rw [hgoes, State.setPc_priv, hk]
  · rw [hraise]
    exact .raise s _ _

theorem StaysOrTraps.jumpLink {rd : Reg} {target : Word} {ilen : Nat} :
    StaysOrTraps s (s.jumpLink rd target ilen) :=
  .transfer (State.writeX_priv s rd _)

theorem StaysOrTraps.branch {taken : Bool} {target : Word} {ilen : Nat} :
    StaysOrTraps s (s.branch taken target ilen) := by
  obtain ⟨-, htaken⟩ | ⟨-, hnot⟩ := s.branch_cases taken target ilen
  · rw [htaken]
    exact .transfer rfl
  · rw [hnot]
    exact .inl rfl

/-! ## Memory access -/

theorem StaysOrTraps.load {ea : Word} {n : Nat} {k : Word → State}
    (hk : ∀ v, StaysOrTraps s (k v)) : StaysOrTraps s (s.load ea n k) := by
  obtain ⟨e, -, hraise⟩ | ⟨-, hread⟩ := s.load_cases ea n k
  · rw [hraise]
    exact .raise s e ea
  · rw [hread]
    exact hk _

theorem State.storePart_fields (s : State) (ea : Word) (n : Nat) (v : Word) :
    s.storePart ea n v =
      { s with mem := (s.storePart ea n v).mem, modified := (s.storePart ea n v).modified,
               draws := (s.storePart ea n v).draws } := by
  obtain ⟨-, hnone⟩ | ⟨-, -, k, hsome⟩ := s.storePart_cases ea n v
  · rw [hnone]
  · rw [hsome]
    rfl

theorem StaysOrTraps.store {ea : Word} {n : Nat} {v : Word} {ilen : Nat} :
    StaysOrTraps s (s.store ea n v ilen) := by
  obtain ⟨e, -, hraise⟩ | ⟨-, hwrites⟩ := s.store_cases ea n v ilen
  · rw [hraise, State.storePart_fields]
    exact .raise_after_stores s _ _ _ e ea
  · rw [hwrites]
    exact .inl rfl

/-! ## System instructions -/

theorem StaysOrTraps.csrAccess {i : Instr} {rd : Reg} {n : BitVec 12} {writes : Bool}
    {new : Word → Word} : StaysOrTraps s (s.csrAccess i rd n writes new) := by
  obtain ⟨-, haccess⟩ | ⟨-, hraise⟩ := s.csrAccess_cases i rd n writes new
  · left
    rw [haccess, State.advance_priv, State.writeX_priv]
    split
    next => exact State.writeCsr_priv s n _
    next => rfl
  · rw [hraise]
    exact .raise s _ _

theorem State.hostServe_priv (s : State) (h : HostService) : (s.hostServe h).priv = s.priv := by
  have heffect : (s.hostEffect h).priv = s.priv := by
    rw [State.hostEffect_fields]
  obtain ⟨-, hserve⟩ | ⟨-, hserve⟩ := s.hostServe_cases h <;> rw [hserve] <;> exact heffect

theorem StaysOrTraps.environmentCall : StaysOrTraps s s.environmentCall := by
  obtain hraise | ⟨h, hlayer, -, -, hserve⟩ := s.environmentCall_cases
  · rw [hraise]
    exact .raise s _ _
  · left
    rw [hserve, State.hostServe_priv, State.raise_of_fault _ _ hlayer, State.stop_priv]

end

/-! ## Instructions -/

/-- Every instruction but `mret`, by the operation that its meaning comes down to. -/
theorem exec_staysOrTraps (s : State) {i : Instr} (hi : i ≠ .mret) :
    ∃ t, exec i s = .next t ∧ StaysOrTraps s t := by
  cases i
  case mret => exact absurd rfl hi
  case addi | slti | sltiu | xori | ori | andi | auipc | lui | add | sub | sll | slt | sltu | xor | srl
      | sra | or | and =>
    exact ⟨_, rfl, .setRd⟩
  case slli | srli | srai | addiw | slliw | srliw | sraiw | addw | subw | sllw | srlw | sraw | mul
      | mulh | mulhsu | mulhu | div | divu | rem | remu | fmvXW | cAddi4spn | cAddi | cLi | cLui
      | cAddi16sp | cSrli | cSrai | cAndi | cSub | cXor | cOr | cAnd | cSlli | cMv | cAdd =>
    exact ⟨_, rfl, .listed .setRd⟩
  case lb | lh | lw | lbu | lhu =>
    exact ⟨_, rfl, .load fun _ => .setRd⟩
  case ld | lwu | cLw | cLwsp =>
    exact ⟨_, rfl, .listed (.load fun _ => .setRd)⟩
  case flw | fld | cFlw | cFld | cFlwsp | cFldsp =>
    exact ⟨_, rfl, .listed (.load fun _ => .inl rfl)⟩
  case sb | sh | sw =>
    exact ⟨_, rfl, .store⟩
  case sd | fsw | fsd | cSw | cFsw | cFsd | cSwsp | cFswsp | cFsdsp =>
    exact ⟨_, rfl, .listed .store⟩
  case beq | bne | blt | bge | bltu | bgeu =>
    exact ⟨_, rfl, .branch⟩
  case cBeqz | cBnez =>
    exact ⟨_, rfl, .listed .branch⟩
  case jal | jalr =>
    exact ⟨_, rfl, .jumpLink⟩
  case cJal | cJalr =>
    exact ⟨_, rfl, .listed .jumpLink⟩
  case cJ | cJr =>
    exact ⟨_, rfl, .listed (.transfer rfl)⟩
  case fmaddS | fmaddD | fmsubS | fmsubD | fnmsubS | fnmsubD | fnmaddS | fnmaddD | faddS | faddD | fsubS
      | fsubD | fmulS | fmulD | fdivS | fdivD | fsqrtS | fsqrtD | fcvtSW | fcvtSWu | fcvtDW | fcvtDWu
      | fcvtSD | fcvtDS =>
    exact ⟨_, rfl, .listed (.withRm fun _ => .fpResult)⟩
  case fcvtWS | fcvtWuS | fcvtWD | fcvtWuD =>
    exact ⟨_, rfl, .listed (.withRm fun _ => .fpToX)⟩
  case fsgnjS | fsgnjD | fsgnjnS | fsgnjnD | fsgnjxS | fsgnjxD | fminS | fminD | fmaxS | fmaxD =>
    exact ⟨_, rfl, .listed .fpResult⟩
  case feqS | feqD | fltS | fltD | fleS | fleD | fclassS | fclassD =>
    exact ⟨_, rfl, .listed .fpToX⟩
  case fmvWX | cNop =>
    exact ⟨_, rfl, .listed (.inl rfl)⟩
  case ebreak | cEbreak =>
    exact ⟨_, rfl, .listed (.raise s _ _)⟩
  case ecall =>
    exact ⟨_, rfl, .listed .environmentCall⟩
  case uret =>
    exact ⟨_, rfl, .listed (.ite (.inl rfl) (.raise s _ _))⟩
  case sret =>
    exact ⟨_, rfl, .listed (.ite (.raise s _ _) (.inl rfl))⟩
  case crrw | crrs | crrc | crrwi | crrsi | crrci =>
    exact ⟨_, rfl, .listed .csrAccess⟩

/-- Under the fault layer `mret` is one of the returns that only copy a program counter (R482). -/
theorem exec_mret_mode {s t : State} (hexec : exec .mret s = .next t) :
    StaysOrTraps s t ∨ (s.cfg.trapLayer = .mmode ∧ s.priv = .m ∧ t.priv = s.mpp) := by
  obtain hillegal | ⟨hM, hreturn⟩ := exec_mret_cases s
  · left
    rw [hillegal] at hexec
    cases hexec
    exact .raise s _ _
  · rw [hreturn] at hexec
    cases hexec
    cases hlayer : s.cfg.trapLayer with
    | fault =>
      rw [State.machineReturn_of_fault hlayer]
      exact .inl (.inl rfl)
    | mmode =>
      rw [State.machineReturn_of_mmode hlayer]
      exact .inr ⟨rfl, hM, rfl⟩

/-! ## Steps -/

theorem State.fetchDecode_done_staysOrTraps {s t : State} (hdone : s.fetchDecode = .done t) :
    StaysOrTraps s t := by
  obtain rfl | rfl | ⟨x, rfl⟩ := State.fetchDecode_done hdone
  · exact .raise s _ _
  · exact .inl rfl
  · exact .raise s _ _

/-- R478 for every state. -/
theorem step_mode {s t : State} (hstep : step s = .next t) :
    StaysOrTraps s t ∨
    (s.cfg.trapLayer = .mmode ∧ s.priv = .m ∧ s.fetchDecode = .run .mret ∧ t.priv = s.mpp) := by
  obtain ⟨-, hdone | ⟨i, hrun, hexec⟩⟩ := step_next_cases hstep
  · exact .inl (State.fetchDecode_done_staysOrTraps hdone)
  · by_cases hi : i = .mret
    · subst hi
      obtain h | ⟨hlayer, hM, hmpp⟩ := exec_mret_mode hexec
      · exact .inl h
      · exact .inr ⟨hlayer, hM, hrun, hmpp⟩
    · obtain ⟨u, hu, h⟩ := exec_staysOrTraps s hi
      rw [hu] at hexec
      cases hexec
      exact .inl h

/-- Settles O19: `step_mode` has the transitions; reset and the two rules of the layer are read off their
definitions. -/
theorem modeTransitions : Obligations.ModeTransitions := by
  refine ⟨fun _ _ => rfl, fun s e info hlayer => State.raise_priv_of_mmode e info hlayer,
    fun s hlayer hS hmepc hM => ⟨_, machineReturn s hS hlayer hmepc hM, rfl⟩,
    fun s t hstep => ⟨fun hfault => ?fault, ?transitions⟩⟩
  case fault =>
    obtain h | ⟨hmmode, -⟩ := step_mode hstep
    · exact h.priv_of_fault hfault
    · simp [hfault] at hmmode
  case transitions =>
    obtain (hstays | htraps) | ⟨-, hM, hmret, hmpp⟩ := step_mode hstep
    · exact .inl hstays
    · exact .inr (.inl ⟨htraps.priv, htraps.pc, htraps.mpp, htraps.x, htraps.f⟩)
    · exact .inr (.inr ⟨hM, hmret, hmpp⟩)

end Sys2Proof.Machine
end


section
/-! The formats and the fields of an encoding are inverse: a field of a format is the operand it was built
from, and the format built from the fields of a value is the value (`spec/30_encoding.md` R102 to R118, R126
to R128). -/

namespace Sys2Proof

open BitVec (extractLsb'_append_eq_of_le extractLsb'_append_eq_of_add_le extractLsb'_eq_self
  extractLsb'_append_extractLsb'_eq_extractLsb')

theorem extractLsb'_extractLsb' {n start k off len : Nat} (x : BitVec n) (h : off + len ≤ k) :
    (x.extractLsb' start k).extractLsb' off len = x.extractLsb' (start + off) len := by
  ext i hi
  simp [show off + i < k by omega, Nat.add_assoc]

/-! ## The fields of a 32-bit format -/

@[simp] theorem fields_encR (funct7 : BitVec 7) (rs2 rs1 : Reg) (funct3 : BitVec 3) (rd : Reg)
    (op : BitVec 7) :
    let w := encR funct7 rs2 rs1 funct3 rd op
    fOp w = op ∧ fRd w = rd ∧ fRs1 w = rs1 ∧ fRs2 w = rs2 ∧ fFunct7 w = funct7 ∧
      fFmt w = funct7.extractLsb' 0 2 ∧ fFs3 w = funct7.extractLsb' 2 5 := by
  simp (disch := decide) only [encR, fOp, fRd, fRs1, fRs2, fFunct7, fFmt, fFs3,
    extractLsb'_append_eq_of_le, extractLsb'_append_eq_of_add_le, extractLsb'_eq_self, Nat.reduceSub,
    and_self]

@[simp] theorem fields_encI (imm : BitVec 12) (rs1 : Reg) (funct3 : BitVec 3) (rd : Reg)
    (op : BitVec 7) :
    let w := encI imm rs1 funct3 rd op
    fOp w = op ∧ fRd w = rd ∧ fFunct3 w = funct3 ∧ fRs1 w = rs1 ∧ fImmI w = imm ∧
      fShiftKind w = imm.extractLsb' 6 6 ∧ fShamt w = imm.extractLsb' 0 6 := by
  simp (disch := decide) only [encI, fOp, fRd, fFunct3, fRs1, fImmI, fShiftKind, fShamt,
    extractLsb'_append_eq_of_le, extractLsb'_append_eq_of_add_le, extractLsb'_eq_self, Nat.reduceSub,
    and_self]

@[simp] theorem fields_encS (imm : BitVec 12) (rs2 rs1 : Reg) (funct3 : BitVec 3) (op : BitVec 7) :
    let w := encS imm rs2 rs1 funct3 op
    fOp w = op ∧ fFunct3 w = funct3 ∧ fRs1 w = rs1 ∧ fRs2 w = rs2 ∧ fImmS w = imm := by
  simp (disch := decide) only [encS, fOp, fFunct3, fRs1, fRs2, fImmS, extractLsb'_append_eq_of_le,
    extractLsb'_append_eq_of_add_le, extractLsb'_extractLsb',
    extractLsb'_append_extractLsb'_eq_extractLsb', extractLsb'_eq_self, Nat.reduceSub, Nat.zero_add,
    and_self]

@[simp] theorem fields_encB (imm : BitVec 12) (rs2 rs1 : Reg) (funct3 : BitVec 3) (op : BitVec 7) :
    let w := encB imm rs2 rs1 funct3 op
    fOp w = op ∧ fFunct3 w = funct3 ∧ fRs1 w = rs1 ∧ fRs2 w = rs2 ∧ fImmB w = imm := by
  simp (disch := decide) only [encB, fOp, fFunct3, fRs1, fRs2, fImmB, extractLsb'_append_eq_of_le,
    extractLsb'_append_eq_of_add_le, extractLsb'_extractLsb',
    extractLsb'_append_extractLsb'_eq_extractLsb', extractLsb'_eq_self, Nat.reduceSub, Nat.zero_add,
    and_self]

@[simp] theorem fields_encU (upimm : BitVec 20) (rd : Reg) (op : BitVec 7) :
    let w := encU upimm rd op
    fOp w = op ∧ fRd w = rd ∧ fImmU w = upimm := by
  simp (disch := decide) only [encU, fOp, fRd, fImmU, extractLsb'_append_eq_of_le,
    extractLsb'_append_eq_of_add_le, extractLsb'_eq_self, Nat.reduceSub, and_self]

@[simp] theorem fields_encJ (imm : BitVec 20) (rd : Reg) (op : BitVec 7) :
    let w := encJ imm rd op
    fOp w = op ∧ fRd w = rd ∧ fImmJ w = imm := by
  simp (disch := decide) only [encJ, fOp, fRd, fImmJ, extractLsb'_append_eq_of_le,
    extractLsb'_append_eq_of_add_le, extractLsb'_extractLsb',
    extractLsb'_append_extractLsb'_eq_extractLsb', extractLsb'_eq_self, Nat.reduceSub, Nat.zero_add,
    and_self]

/-- R4-type is R-type with `fs3` and `fmt` in the place of `funct7`. -/
theorem encR4_eq_encR (fs3 : Reg) (fmt : BitVec 2) (fs2 fs1 : Reg) (rm : RmField) (fd : Reg)
    (op : BitVec 7) :
    encR4 fs3 fmt fs2 fs1 rm fd op = encR (fs3 ++ fmt) fs2 fs1 rm.code fd op := rfl

/-! ## The fields of a 16-bit format -/

@[simp] theorem fields_encCR (funct4 : BitVec 4) (rd rs2 : Reg) (op : BitVec 2) :
    let h := encCR funct4 rd rs2 op
    cOp h = op ∧ cFunct3 h = funct4.extractLsb' 1 3 ∧ cBit12 h = funct4.extractLsb' 0 1 ∧
      cRd h = rd ∧ cRs2 h = rs2 := by
  simp (disch := decide) only [encCR, cOp, cFunct3, cBit12, cRd, cRs2, extractLsb'_append_eq_of_le,
    extractLsb'_append_eq_of_add_le, extractLsb'_eq_self, Nat.reduceSub, and_self]

@[simp] theorem fields_encCI (funct3 : BitVec 3) (imm : BitVec 6) (rd : Reg) (op : BitVec 2) :
    let h := encCI funct3 imm rd op
    cOp h = op ∧ cFunct3 h = funct3 ∧ cRd h = rd ∧ cImm6 h = imm ∧
      cBit12 h = imm.extractLsb' 5 1 ∧ cShamt h = imm.extractLsb' 0 5 := by
  simp (disch := decide) only [encCI, cOp, cFunct3, cRd, cImm6, cBit12, cShamt,
    extractLsb'_append_eq_of_le, extractLsb'_append_eq_of_add_le, extractLsb'_extractLsb',
    extractLsb'_append_extractLsb'_eq_extractLsb', extractLsb'_eq_self, Nat.reduceSub, Nat.zero_add,
    and_self]

@[simp] theorem fields_encCI16 (funct3 : BitVec 3) (imm : BitVec 6) (op : BitVec 2) :
    let h := encCI16 funct3 imm op
    cOp h = op ∧ cFunct3 h = funct3 ∧ cRd h = 2#5 ∧ cImm16sp h = imm := by
  simp (disch := decide) only [encCI16, cOp, cFunct3, cRd, cImm16sp, extractLsb'_append_eq_of_le,
    extractLsb'_append_eq_of_add_le, extractLsb'_extractLsb',
    extractLsb'_append_extractLsb'_eq_extractLsb', extractLsb'_eq_self, Nat.reduceSub, Nat.zero_add,
    and_self]

@[simp] theorem fields_encCIwsp (funct3 : BitVec 3) (imm : BitVec 6) (rd : Reg) (op : BitVec 2) :
    let h := encCIwsp funct3 imm rd op
    cOp h = op ∧ cFunct3 h = funct3 ∧ cRd h = rd ∧ cImmWsp h = imm := by
  simp (disch := decide) only [encCIwsp, cOp, cFunct3, cRd, cImmWsp, extractLsb'_append_eq_of_le,
    extractLsb'_append_eq_of_add_le, extractLsb'_extractLsb',
    extractLsb'_append_extractLsb'_eq_extractLsb', extractLsb'_eq_self, Nat.reduceSub, Nat.zero_add,
    and_self]

@[simp] theorem fields_encCIdsp (funct3 : BitVec 3) (imm : BitVec 6) (rd : Reg) (op : BitVec 2) :
    let h := encCIdsp funct3 imm rd op
    cOp h = op ∧ cFunct3 h = funct3 ∧ cRd h = rd ∧ cImmDsp h = imm := by
  simp (disch := decide) only [encCIdsp, cOp, cFunct3, cRd, cImmDsp, extractLsb'_append_eq_of_le,
    extractLsb'_append_eq_of_add_le, extractLsb'_extractLsb',
    extractLsb'_append_extractLsb'_eq_extractLsb', extractLsb'_eq_self, Nat.reduceSub, Nat.zero_add,
    and_self]

@[simp] theorem fields_encCSSw (funct3 : BitVec 3) (imm : BitVec 6) (rs2 : Reg) (op : BitVec 2) :
    let h := encCSSw funct3 imm rs2 op
    cOp h = op ∧ cFunct3 h = funct3 ∧ cRs2 h = rs2 ∧ cImmSwsp h = imm := by
  simp (disch := decide) only [encCSSw, cOp, cFunct3, cRs2, cImmSwsp, extractLsb'_append_eq_of_le,
    extractLsb'_append_eq_of_add_le, extractLsb'_extractLsb',
    extractLsb'_append_extractLsb'_eq_extractLsb', extractLsb'_eq_self, Nat.reduceSub, Nat.zero_add,
    and_self]

@[simp] theorem fields_encCSSd (funct3 : BitVec 3) (imm : BitVec 6) (rs2 : Reg) (op : BitVec 2) :
    let h := encCSSd funct3 imm rs2 op
    cOp h = op ∧ cFunct3 h = funct3 ∧ cRs2 h = rs2 ∧ cImmSdsp h = imm := by
  simp (disch := decide) only [encCSSd, cOp, cFunct3, cRs2, cImmSdsp, extractLsb'_append_eq_of_le,
    extractLsb'_append_eq_of_add_le, extractLsb'_extractLsb',
    extractLsb'_append_extractLsb'_eq_extractLsb', extractLsb'_eq_self, Nat.reduceSub, Nat.zero_add,
    and_self]

@[simp] theorem fields_encCIW (funct3 : BitVec 3) (imm : BitVec 8) (rd : CReg) (op : BitVec 2) :
    let h := encCIW funct3 imm rd op
    cOp h = op ∧ cFunct3 h = funct3 ∧ cLowReg h = rd ∧ cImm4spn h = imm := by
  simp (disch := decide) only [encCIW, cOp, cFunct3, cLowReg, cImm4spn, extractLsb'_append_eq_of_le,
    extractLsb'_append_eq_of_add_le, extractLsb'_extractLsb',
    extractLsb'_append_extractLsb'_eq_extractLsb', extractLsb'_eq_self, Nat.reduceSub, Nat.zero_add,
    and_self]

@[simp] theorem fields_encCLw (funct3 : BitVec 3) (imm : BitVec 5) (rs1 reg : CReg) (op : BitVec 2) :
    let h := encCLw funct3 imm rs1 reg op
    cOp h = op ∧ cFunct3 h = funct3 ∧ cHighReg h = rs1 ∧ cLowReg h = reg ∧ cImmW h = imm := by
  simp (disch := decide) only [encCLw, cOp, cFunct3, cHighReg, cLowReg, cImmW,
    extractLsb'_append_eq_of_le, extractLsb'_append_eq_of_add_le, extractLsb'_extractLsb',
    extractLsb'_append_extractLsb'_eq_extractLsb', extractLsb'_eq_self, Nat.reduceSub, Nat.zero_add,
    and_self]

@[simp] theorem fields_encCLd (funct3 : BitVec 3) (imm : BitVec 5) (rs1 reg : CReg) (op : BitVec 2) :
    let h := encCLd funct3 imm rs1 reg op
    cOp h = op ∧ cFunct3 h = funct3 ∧ cHighReg h = rs1 ∧ cLowReg h = reg ∧ cImmD h = imm := by
  simp (disch := decide) only [encCLd, cOp, cFunct3, cHighReg, cLowReg, cImmD,
    extractLsb'_append_eq_of_le, extractLsb'_append_eq_of_add_le, extractLsb'_extractLsb',
    extractLsb'_append_extractLsb'_eq_extractLsb', extractLsb'_eq_self, Nat.reduceSub, Nat.zero_add,
    and_self]

@[simp] theorem fields_encCSx (funct6 : BitVec 6) (rd : CReg) (funct2 : BitVec 2) (rs2 : CReg)
    (op : BitVec 2) :
    let h := encCSx funct6 rd funct2 rs2 op
    cOp h = op ∧ cFunct3 h = funct6.extractLsb' 3 3 ∧ cBit12 h = funct6.extractLsb' 2 1 ∧
      cFunct2b h = funct6.extractLsb' 0 2 ∧ cHighReg h = rd ∧ cFunct2 h = funct2 ∧ cLowReg h = rs2 := by
  simp (disch := decide) only [encCSx, cOp, cFunct3, cBit12, cFunct2b, cHighReg, cFunct2, cLowReg,
    extractLsb'_append_eq_of_le, extractLsb'_append_eq_of_add_le, extractLsb'_eq_self, Nat.reduceSub,
    and_self]

@[simp] theorem fields_encCBx (funct3 : BitVec 3) (imm : BitVec 6) (funct2 : BitVec 2) (rd : CReg)
    (op : BitVec 2) :
    let h := encCBx funct3 imm funct2 rd op
    cOp h = op ∧ cFunct3 h = funct3 ∧ cFunct2b h = funct2 ∧ cHighReg h = rd ∧ cImm6 h = imm ∧
      cBit12 h = imm.extractLsb' 5 1 ∧ cShamt h = imm.extractLsb' 0 5 := by
  simp (disch := decide) only [encCBx, cOp, cFunct3, cFunct2b, cHighReg, cImm6, cBit12, cShamt,
    extractLsb'_append_eq_of_le, extractLsb'_append_eq_of_add_le, extractLsb'_extractLsb',
    extractLsb'_append_extractLsb'_eq_extractLsb', extractLsb'_eq_self, Nat.reduceSub, Nat.zero_add,
    and_self]

@[simp] theorem fields_encCB (funct3 : BitVec 3) (imm : BitVec 8) (rs1 : CReg) (op : BitVec 2) :
    let h := encCB funct3 imm rs1 op
    cOp h = op ∧ cFunct3 h = funct3 ∧ cHighReg h = rs1 ∧ cImmB h = imm := by
  simp (disch := decide) only [encCB, cOp, cFunct3, cHighReg, cImmB, extractLsb'_append_eq_of_le,
    extractLsb'_append_eq_of_add_le, extractLsb'_extractLsb',
    extractLsb'_append_extractLsb'_eq_extractLsb', extractLsb'_eq_self, Nat.reduceSub, Nat.zero_add,
    and_self]

@[simp] theorem fields_encCJ (funct3 : BitVec 3) (imm : BitVec 11) (op : BitVec 2) :
    let h := encCJ funct3 imm op
    cOp h = op ∧ cFunct3 h = funct3 ∧ cImmJ h = imm := by
  simp (disch := decide) only [encCJ, cOp, cFunct3, cImmJ, extractLsb'_append_eq_of_le,
    extractLsb'_append_eq_of_add_le, extractLsb'_extractLsb',
    extractLsb'_append_extractLsb'_eq_extractLsb', extractLsb'_eq_self, Nat.reduceSub, Nat.zero_add,
    and_self]

/-! ## The 32-bit format of given fields -/

section
variable {w : BitVec 32} {funct7 op : BitVec 7} {funct3 : BitVec 3}

theorem encR_of_fields (h7 : fFunct7 w = funct7) (h3 : fFunct3 w = funct3) (hop : fOp w = op) :
    encR funct7 (fRs2 w) (fRs1 w) funct3 (fRd w) op = w := by
  subst h7 h3 hop
  simp (disch := decide) only [encR, fOp, fRd, fFunct3, fRs1, fRs2, fFunct7,
    extractLsb'_append_extractLsb'_eq_extractLsb', extractLsb'_eq_self]

theorem encI_of_fields (h3 : fFunct3 w = funct3) (hop : fOp w = op) :
    encI (fImmI w) (fRs1 w) funct3 (fRd w) op = w := by
  subst h3 hop
  simp (disch := decide) only [encI, fOp, fRd, fFunct3, fRs1, fImmI,
    extractLsb'_append_extractLsb'_eq_extractLsb', extractLsb'_eq_self]

theorem encS_of_fields (h3 : fFunct3 w = funct3) (hop : fOp w = op) :
    encS (fImmS w) (fRs2 w) (fRs1 w) funct3 op = w := by
  subst h3 hop
  simp (disch := decide) only [encS, fOp, fFunct3, fRs1, fRs2, fImmS, extractLsb'_append_eq_of_le,
    extractLsb'_append_eq_of_add_le, extractLsb'_extractLsb',
    extractLsb'_append_extractLsb'_eq_extractLsb', extractLsb'_eq_self]

theorem encB_of_fields (h3 : fFunct3 w = funct3) (hop : fOp w = op) :
    encB (fImmB w) (fRs2 w) (fRs1 w) funct3 op = w := by
  subst h3 hop
  simp (disch := decide) only [encB, fOp, fFunct3, fRs1, fRs2, fImmB, extractLsb'_append_eq_of_le,
    extractLsb'_append_eq_of_add_le, extractLsb'_extractLsb',
    extractLsb'_append_extractLsb'_eq_extractLsb', extractLsb'_eq_self]

theorem encU_of_fields (hop : fOp w = op) : encU (fImmU w) (fRd w) op = w := by
  subst hop
  simp (disch := decide) only [encU, fOp, fRd, fImmU, extractLsb'_append_extractLsb'_eq_extractLsb',
    extractLsb'_eq_self]

theorem encJ_of_fields (hop : fOp w = op) : encJ (fImmJ w) (fRd w) op = w := by
  subst hop
  simp (disch := decide) only [encJ, fOp, fRd, fImmJ, extractLsb'_append_eq_of_le,
    extractLsb'_append_eq_of_add_le, extractLsb'_extractLsb',
    extractLsb'_append_extractLsb'_eq_extractLsb', extractLsb'_eq_self]

/-- The upper field of a shift by an immediate and the shift amount are the I-type immediate. -/
theorem append_fShamt {kind : BitVec 6} (hkind : fShiftKind w = kind) : kind ++ fShamt w = fImmI w := by
  subst hkind
  simp (disch := decide) only [fShiftKind, fShamt, fImmI, extractLsb'_append_extractLsb'_eq_extractLsb']

/-- `fs3` and `fmt` are `funct7`. -/
theorem fFs3_append {fmt : BitVec 2} (hfmt : fFmt w = fmt) : fFs3 w ++ fmt = fFunct7 w := by
  subst hfmt
  simp (disch := decide) only [fFmt, fFs3, fFunct7, extractLsb'_append_extractLsb'_eq_extractLsb']

end

/-! ## The 16-bit format of given fields -/

section
variable {h : BitVec 16} {op : BitVec 2} {funct3 : BitVec 3}

theorem encCR_of_fields {bit : BitVec 1} {funct4 : BitVec 4} (h4 : funct4 = funct3 ++ bit)
    (h3 : cFunct3 h = funct3) (hbit : cBit12 h = bit) (hop : cOp h = op) :
    encCR funct4 (cRd h) (cRs2 h) op = h := by
  subst h4 h3 hbit hop
  simp (disch := decide) only [encCR, cOp, cFunct3, cBit12, cRd, cRs2,
    extractLsb'_append_extractLsb'_eq_extractLsb', extractLsb'_eq_self]

theorem encCI_of_fields (h3 : cFunct3 h = funct3) (hop : cOp h = op) :
    encCI funct3 (cImm6 h) (cRd h) op = h := by
  subst h3 hop
  simp (disch := decide) only [encCI, cOp, cFunct3, cRd, cImm6, extractLsb'_append_eq_of_le,
    extractLsb'_append_eq_of_add_le, extractLsb'_extractLsb',
    extractLsb'_append_extractLsb'_eq_extractLsb', extractLsb'_eq_self]

theorem encCI16_of_fields (h3 : cFunct3 h = funct3) (hrd : cRd h = 2#5) (hop : cOp h = op) :
    encCI16 funct3 (cImm16sp h) op = h := by
  subst h3 hop
  rw [encCI16, ← hrd]
  simp (disch := decide) only [cOp, cFunct3, cRd, cImm16sp, extractLsb'_append_eq_of_le,
    extractLsb'_append_eq_of_add_le, extractLsb'_extractLsb',
    extractLsb'_append_extractLsb'_eq_extractLsb', extractLsb'_eq_self]

theorem encCIwsp_of_fields (h3 : cFunct3 h = funct3) (hop : cOp h = op) :
    encCIwsp funct3 (cImmWsp h) (cRd h) op = h := by
  subst h3 hop
  simp (disch := decide) only [encCIwsp, cOp, cFunct3, cRd, cImmWsp, extractLsb'_append_eq_of_le,
    extractLsb'_append_eq_of_add_le, extractLsb'_extractLsb',
    extractLsb'_append_extractLsb'_eq_extractLsb', extractLsb'_eq_self]

theorem encCIdsp_of_fields (h3 : cFunct3 h = funct3) (hop : cOp h = op) :
    encCIdsp funct3 (cImmDsp h) (cRd h) op = h := by
  subst h3 hop
  simp (disch := decide) only [encCIdsp, cOp, cFunct3, cRd, cImmDsp, extractLsb'_append_eq_of_le,
    extractLsb'_append_eq_of_add_le, extractLsb'_extractLsb',
    extractLsb'_append_extractLsb'_eq_extractLsb', extractLsb'_eq_self]

theorem encCSSw_of_fields (h3 : cFunct3 h = funct3) (hop : cOp h = op) :
    encCSSw funct3 (cImmSwsp h) (cRs2 h) op = h := by
  subst h3 hop
  simp (disch := decide) only [encCSSw, cOp, cFunct3, cRs2, cImmSwsp, extractLsb'_append_eq_of_le,
    extractLsb'_append_eq_of_add_le, extractLsb'_extractLsb',
    extractLsb'_append_extractLsb'_eq_extractLsb', extractLsb'_eq_self]

theorem encCSSd_of_fields (h3 : cFunct3 h = funct3) (hop : cOp h = op) :
    encCSSd funct3 (cImmSdsp h) (cRs2 h) op = h := by
  subst h3 hop
  simp (disch := decide) only [encCSSd, cOp, cFunct3, cRs2, cImmSdsp, extractLsb'_append_eq_of_le,
    extractLsb'_append_eq_of_add_le, extractLsb'_extractLsb',
    extractLsb'_append_extractLsb'_eq_extractLsb', extractLsb'_eq_self]

theorem encCIW_of_fields (h3 : cFunct3 h = funct3) (hop : cOp h = op) :
    encCIW funct3 (cImm4spn h) (cLowReg h) op = h := by
  subst h3 hop
  simp (disch := decide) only [encCIW, cOp, cFunct3, cLowReg, cImm4spn, extractLsb'_append_eq_of_le,
    extractLsb'_append_eq_of_add_le, extractLsb'_extractLsb',
    extractLsb'_append_extractLsb'_eq_extractLsb', extractLsb'_eq_self]

theorem encCLw_of_fields (h3 : cFunct3 h = funct3) (hop : cOp h = op) :
    encCLw funct3 (cImmW h) (cHighReg h) (cLowReg h) op = h := by
  subst h3 hop
  simp (disch := decide) only [encCLw, cOp, cFunct3, cHighReg, cLowReg, cImmW,
    extractLsb'_append_eq_of_le, extractLsb'_append_eq_of_add_le, extractLsb'_extractLsb',
    extractLsb'_append_extractLsb'_eq_extractLsb', extractLsb'_eq_self]

theorem encCLd_of_fields (h3 : cFunct3 h = funct3) (hop : cOp h = op) :
    encCLd funct3 (cImmD h) (cHighReg h) (cLowReg h) op = h := by
  subst h3 hop
  simp (disch := decide) only [encCLd, cOp, cFunct3, cHighReg, cLowReg, cImmD,
    extractLsb'_append_eq_of_le, extractLsb'_append_eq_of_add_le, extractLsb'_extractLsb',
    extractLsb'_append_extractLsb'_eq_extractLsb', extractLsb'_eq_self]

theorem encCSx_of_fields {bit : BitVec 1} {minor funct2 : BitVec 2} {funct6 : BitVec 6}
    (h6 : funct6 = funct3 ++ bit ++ minor) (h3 : cFunct3 h = funct3) (hbit : cBit12 h = bit)
    (hminor : cFunct2b h = minor) (h2 : cFunct2 h = funct2) (hop : cOp h = op) :
    encCSx funct6 (cHighReg h) funct2 (cLowReg h) op = h := by
  subst h6 h3 hbit hminor h2 hop
  simp (disch := decide) only [encCSx, cOp, cFunct3, cBit12, cFunct2b, cHighReg, cFunct2, cLowReg,
    extractLsb'_append_extractLsb'_eq_extractLsb', extractLsb'_eq_self]

theorem encCBx_of_fields {funct2 : BitVec 2} (h3 : cFunct3 h = funct3) (h2 : cFunct2b h = funct2)
    (hop : cOp h = op) : encCBx funct3 (cImm6 h) funct2 (cHighReg h) op = h := by
  subst h3 h2 hop
  simp (disch := decide) only [encCBx, cOp, cFunct3, cFunct2b, cHighReg, cImm6,
    extractLsb'_append_eq_of_le, extractLsb'_append_eq_of_add_le, extractLsb'_extractLsb',
    extractLsb'_append_extractLsb'_eq_extractLsb', extractLsb'_eq_self]

theorem encCB_of_fields (h3 : cFunct3 h = funct3) (hop : cOp h = op) :
    encCB funct3 (cImmB h) (cHighReg h) op = h := by
  subst h3 hop
  simp (disch := decide) only [encCB, cOp, cFunct3, cHighReg, cImmB, extractLsb'_append_eq_of_le,
    extractLsb'_append_eq_of_add_le, extractLsb'_extractLsb',
    extractLsb'_append_extractLsb'_eq_extractLsb', extractLsb'_eq_self]

theorem encCJ_of_fields (h3 : cFunct3 h = funct3) (hop : cOp h = op) :
    encCJ funct3 (cImmJ h) op = h := by
  subst h3 hop
  simp (disch := decide) only [encCJ, cOp, cFunct3, cImmJ, extractLsb'_append_eq_of_le,
    extractLsb'_append_eq_of_add_le, extractLsb'_extractLsb',
    extractLsb'_append_extractLsb'_eq_extractLsb', extractLsb'_eq_self]

/-- A zero `instr[12]` and the shift amount are the 6-bit immediate. -/
theorem append_cShamt {bit : BitVec 1} (hbit : cBit12 h = bit) : bit ++ cShamt h = cImm6 h := by
  subst hbit
  simp (disch := decide) only [cBit12, cShamt, cImm6]

end

end Sys2Proof
end


section
/-! The decoder and the encoder are inverse (`spec/30_encoding.md` R121): each row of the opcode map is found
again from its encoding, and the encoding of a row is the value it was found in. -/

namespace Sys2Proof

open BitVec (extractLsb'_eq_self extractLsb'_append_eq_of_le extractLsb'_append_eq_of_add_le)

/-! ## The checks of the decoder -/

theorem IllFormed.unless_eq_none {ok : Bool} {why : IllFormed} :
    IllFormed.unless ok why = none ↔ ok = true := by
  cases ok <;> simp [IllFormed.unless]

theorem Instr.wf_iff {isa : Isa} {i : Instr} : i.wf isa = true ↔ i.illFormed isa = none := by
  simp [Instr.wf]

/-- Decoding is the opcode map, and the row is one of the machine. -/
theorem decode_ok_iff {isa : Isa} {x : Fetched} {i : Instr} :
    decode isa x = .ok i ↔ decodeBits x = .ok i ∧ i.wf isa = true := by
  rw [Instr.wf_iff]
  unfold decode
  cases decodeBits x with
  | error r => simp
  | ok j =>
    dsimp only
    constructor
    · intro h
      split at h
      next hnone => cases h; exact ⟨rfl, hnone⟩
      next => cases h
    · rintro ⟨hj, hnone⟩
      cases hj
      rw [hnone]

theorem RmField.ofCode_eq_some {c : BitVec 3} {rm : RmField} :
    RmField.ofCode c = some rm ↔ rm.code = c := by
  revert c
  cases rm <;> decide

theorem withRmField_eq_ok {w : BitVec 32} {k : RmField → Instr} {i : Instr} :
    withRmField w k = .ok i ↔ ∃ rm, rm.code = fFunct3 w ∧ i = k rm := by
  unfold withRmField
  constructor
  · intro h
    split at h
    next rm hrm => cases h; exact ⟨rm, RmField.ofCode_eq_some.1 hrm, rfl⟩
    next => cases h
  · rintro ⟨rm, hrm, rfl⟩
    rw [RmField.ofCode_eq_some.2 hrm]

/-! ## From an instruction to its row -/

@[simp] theorem withRmField_encR (funct7 : BitVec 7) (rs2 rs1 : Reg) (rm : RmField) (rd : Reg)
    (op : BitVec 7) (k : RmField → Instr) :
    withRmField (encR funct7 rs2 rs1 rm.code rd op) k = .ok (k rm) :=
  withRmField_eq_ok.2 ⟨rm, by simp, rfl⟩

/-- The row of an instruction has its bits, if its register and immediate fields are not those of another
row (R129). -/
theorem decodeBits_encode {isa : Isa} {i : Instr} (hwf : i.wf isa = true) :
    decodeBits (encode i) = .ok i := by
  cases i
  case lb | lh | lw | lbu | lhu | ld | lwu =>
    simp [encode, decodeBits, decodeFull, decodeLoad]
  case addi | slti | sltiu | xori | ori | andi =>
    simp [encode, decodeBits, decodeFull, decodeOpImm]
  case slli | srli | srai =>
    simp (disch := decide) only [encode, decodeBits, decodeFull, decodeOpImm, fields_encI,
      extractLsb'_append_eq_of_le, extractLsb'_append_eq_of_add_le, extractLsb'_eq_self, Nat.reduceSub]
  case addiw | slliw | srliw | sraiw =>
    simp [encode, decodeBits, decodeFull, decodeOpImm32]
  case sb | sh | sw | sd => simp [encode, decodeBits, decodeFull, decodeStore]
  case add | sub | sll | slt | sltu | xor | srl | sra | or | and | mul | mulh | mulhsu | mulhu | div | divu
      | rem | remu =>
    simp [encode, decodeBits, decodeFull, decodeOp]
  case addw | subw | sllw | srlw | sraw => simp [encode, decodeBits, decodeFull, decodeOp32]
  case beq | bne | blt | bge | bltu | bgeu => simp [encode, decodeBits, decodeFull, decodeBranch]
  case auipc | lui | jal | jalr | flw | fld | fsw | fsd => simp [encode, decodeBits, decodeFull]
  case fmaddS | fmaddD | fmsubS | fmsubD | fnmsubS | fnmsubD | fnmaddS | fnmaddD =>
    simp (disch := decide) only [encode, decodeBits, decodeFull, decodeR4, encR4_eq_encR, fields_encR,
      withRmField_encR, extractLsb'_append_eq_of_le, extractLsb'_append_eq_of_add_le, extractLsb'_eq_self,
      Nat.reduceSub]
  case faddS | faddD | fsubS | fsubD | fmulS | fmulD | fdivS | fdivD =>
    simp [encode, decodeBits, decodeFull, decodeOpFp, decodeFpRR]
  case fsqrtS | fsqrtD | fcvtSD | fcvtDS =>
    simp [encode, decodeBits, decodeFull, decodeOpFp, decodeFp1]
  case fsgnjS | fsgnjD | fsgnjnS | fsgnjnD | fsgnjxS | fsgnjxD =>
    simp [encode, decodeBits, decodeFull, decodeOpFp, decodeSgnj]
  case fminS | fminD | fmaxS | fmaxD => simp [encode, decodeBits, decodeFull, decodeOpFp, decodeMinMax]
  case feqS | feqD | fltS | fltD | fleS | fleD =>
    simp [encode, decodeBits, decodeFull, decodeOpFp, decodeCmp]
  case fclassS | fclassD | fmvXW | fmvWX => simp [encode, decodeBits, decodeFull, decodeOpFp]
  case fcvtWS | fcvtWuS | fcvtSW | fcvtSWu | fcvtWD | fcvtWuD | fcvtDW | fcvtDWu =>
    simp [encode, decodeBits, decodeFull, decodeOpFp, decodeCvt]
  case ecall | ebreak | uret | sret | mret | crrw | crrs | crrc | crrwi | crrsi | crrci =>
    simp [encode, decodeBits, decodeFull, decodeSystem]
  case cAddi4spn | cFld | cLw | cFlw | cFsd | cSw | cFsw =>
    simp [encode, decodeBits, decodeHalf, decodeQuadrant0]
  case cNop | cJal | cLi | cAddi16sp | cJ | cBeqz | cBnez =>
    simp [encode, decodeBits, decodeHalf, decodeQuadrant1]
  case cAddi rd imm =>
    have hnop : ¬(rd = 0#5 ∧ imm = 0#6) := by
      simp [Instr.wf_iff, Instr.illFormed, IllFormed.unless_eq_none] at hwf
      exact fun h => hwf.2.elim (· h.1) (· h.2)
    simp [encode, decodeBits, decodeHalf, decodeQuadrant1, hnop]
  case cLui rd imm =>
    have hsp : rd ≠ 2#5 := by
      simp [Instr.wf_iff, Instr.illFormed, IllFormed.unless_eq_none] at hwf
      exact hwf.1.2
    simp [encode, decodeBits, decodeHalf, decodeQuadrant1, hsp]
  case cAndi | cSub | cXor | cOr | cAnd =>
    simp [encode, decodeBits, decodeHalf, decodeQuadrant1, decodeCArith]
  case cSrli | cSrai =>
    simp (disch := decide) only [encode, decodeBits, decodeHalf, decodeQuadrant1, decodeCArith,
      fields_encCBx, extractLsb'_append_eq_of_le, extractLsb'_append_eq_of_add_le, extractLsb'_eq_self,
      Nat.reduceSub, if_true]
  case cSlli =>
    simp (disch := decide) only [encode, decodeBits, decodeHalf, decodeQuadrant2, fields_encCI,
      extractLsb'_append_eq_of_le, extractLsb'_append_eq_of_add_le, extractLsb'_eq_self, Nat.reduceSub,
      if_true]
  case cFldsp | cLwsp | cFlwsp | cEbreak | cFsdsp | cSwsp | cFswsp =>
    simp [encode, decodeBits, decodeHalf, decodeQuadrant2]
  case cJr => simp [encode, decodeBits, decodeHalf, decodeQuadrant2]
  case cMv rd rs2 | cJalr rd | cAdd rd rs2 =>
    simp_all [encode, decodeBits, decodeHalf, decodeQuadrant2, Instr.wf_iff, Instr.illFormed,
      IllFormed.unless_eq_none]

/-- Settles O1: the opcode map finds the row, and the row is one of the machine. -/
theorem decodeEncode : Obligations.DecodeEncode :=
  fun _ _ hwf => decode_ok_iff.2 ⟨decodeBits_encode hwf, hwf⟩

/-! ## From a row to its encoding -/

section
variable {w : BitVec 32} {i : Instr}

theorem encode_of_decodeLoad (hop : fOp w = 0b0000011#7) (h : decodeLoad w = .ok i) :
    encode i = .full w := by
  unfold decodeLoad at h
  split at h <;> cases h
  all_goals exact congrArg Fetched.full (encI_of_fields ‹_› hop)

theorem encode_of_decodeOpImm (hop : fOp w = 0b0010011#7) (h : decodeOpImm w = .ok i) :
    encode i = .full w := by
  unfold decodeOpImm at h
  split at h
  case h_2 h3 | h_6 h3 =>
    split at h <;> cases h
    all_goals
      rw [encode, append_fShamt ‹_›]
      exact congrArg Fetched.full (encI_of_fields h3 hop)
  all_goals cases h
  all_goals exact congrArg Fetched.full (encI_of_fields ‹_› hop)

theorem encode_of_decodeOpImm32 (hop : fOp w = 0b0011011#7) (h : decodeOpImm32 w = .ok i) :
    encode i = .full w := by
  unfold decodeOpImm32 at h
  split at h
  case h_1 h3 => cases h; exact congrArg Fetched.full (encI_of_fields h3 hop)
  case h_2 h3 | h_3 h3 =>
    split at h <;> cases h
    all_goals exact congrArg Fetched.full (encR_of_fields ‹_› h3 hop)
  case h_4 => cases h

theorem encode_of_decodeOp (hop : fOp w = 0b0110011#7) (h : decodeOp w = .ok i) :
    encode i = .full w := by
  unfold decodeOp at h
  split at h
  case h_1 h7 | h_2 h7 | h_3 h7 =>
    split at h <;> cases h
    all_goals exact congrArg Fetched.full (encR_of_fields h7 ‹_› hop)
  case h_4 => cases h

theorem encode_of_decodeOp32 (hop : fOp w = 0b0111011#7) (h : decodeOp32 w = .ok i) :
    encode i = .full w := by
  unfold decodeOp32 at h
  split at h
  case h_1 h7 | h_2 h7 =>
    split at h <;> cases h
    all_goals exact congrArg Fetched.full (encR_of_fields h7 ‹_› hop)
  case h_3 => cases h

theorem encode_of_decodeStore (hop : fOp w = 0b0100011#7) (h : decodeStore w = .ok i) :
    encode i = .full w := by
  unfold decodeStore at h
  split at h <;> cases h
  all_goals exact congrArg Fetched.full (encS_of_fields ‹_› hop)

theorem encode_of_decodeBranch (hop : fOp w = 0b1100011#7) (h : decodeBranch w = .ok i) :
    encode i = .full w := by
  unfold decodeBranch at h
  split at h <;> cases h
  all_goals exact congrArg Fetched.full (encB_of_fields ‹_› hop)

/-- The words without operands are told apart by their immediate, once `rs1` and `rd` are zero. -/
theorem encode_of_decodeSystem (hop : fOp w = 0b1110011#7) (h : decodeSystem w = .ok i) :
    encode i = .full w := by
  unfold decodeSystem at h
  split at h
  case h_1 h3 =>
    split at h
    next hzero =>
      obtain ⟨hrs1, hrd⟩ := hzero
      have hword := encI_of_fields h3 hop
      rw [hrs1, hrd] at hword
      split at h <;> cases h
      all_goals
        rename_i himm
        rw [himm] at hword
        exact congrArg Fetched.full hword
    next => cases h
  all_goals cases h
  all_goals exact congrArg Fetched.full (encI_of_fields ‹_› hop)

/-- R4-type: a pair of rows `single`, `double` told apart by `fmt`. -/
theorem encode_of_decodeR4 {op : BitVec 7} {single double : Reg → Reg → Reg → Reg → RmField → Instr}
    (hsingle : ∀ fd fs1 fs2 fs3 rm, encode (single fd fs1 fs2 fs3 rm) =
      .full (encR4 fs3 0b00#2 fs2 fs1 rm fd op))
    (hdouble : ∀ fd fs1 fs2 fs3 rm, encode (double fd fs1 fs2 fs3 rm) =
      .full (encR4 fs3 0b01#2 fs2 fs1 rm fd op))
    (hop : fOp w = op) (h : decodeR4 w single double = .ok i) : encode i = .full w := by
  unfold decodeR4 at h
  split at h
  case h_1 hfmt =>
    obtain ⟨rm, hrm, rfl⟩ := withRmField_eq_ok.1 h
    rw [hsingle, encR4_eq_encR, fFs3_append hfmt]
    exact congrArg Fetched.full (encR_of_fields rfl hrm.symm hop)
  case h_2 hfmt =>
    obtain ⟨rm, hrm, rfl⟩ := withRmField_eq_ok.1 h
    rw [hdouble, encR4_eq_encR, fFs3_append hfmt]
    exact congrArg Fetched.full (encR_of_fields rfl hrm.symm hop)
  case h_3 => cases h

section
variable {funct7 : BitVec 7} (h7 : fFunct7 w = funct7) (hop : fOp w = 0b1010011#7)
include h7 hop

theorem encode_of_decodeFpRR {k : Reg → Reg → Reg → RmField → Instr}
    (hk : ∀ fd fs1 fs2 rm, encode (k fd fs1 fs2 rm) =
      .full (encR funct7 fs2 fs1 rm.code fd 0b1010011#7))
    (h : decodeFpRR w k = .ok i) : encode i = .full w := by
  obtain ⟨rm, hrm, rfl⟩ := withRmField_eq_ok.1 h
  rw [hk]
  exact congrArg Fetched.full (encR_of_fields h7 hrm.symm hop)

theorem encode_of_decodeFp1 {c : Reg} {k : Reg → Reg → RmField → Instr}
    (hk : ∀ fd fs1 rm, encode (k fd fs1 rm) = .full (encR funct7 c fs1 rm.code fd 0b1010011#7))
    (h : decodeFp1 w c k = .ok i) : encode i = .full w := by
  unfold decodeFp1 at h
  split at h
  next hrs2 =>
    obtain ⟨rm, hrm, rfl⟩ := withRmField_eq_ok.1 h
    rw [hk, ← hrs2]
    exact congrArg Fetched.full (encR_of_fields h7 hrm.symm hop)
  next => cases h

theorem encode_of_decodeCvt {signed unsigned : Reg → Reg → RmField → Instr}
    (hsigned : ∀ fd fs1 rm, encode (signed fd fs1 rm) =
      .full (encR funct7 0#5 fs1 rm.code fd 0b1010011#7))
    (hunsigned : ∀ fd fs1 rm, encode (unsigned fd fs1 rm) =
      .full (encR funct7 1#5 fs1 rm.code fd 0b1010011#7))
    (h : decodeCvt w signed unsigned = .ok i) : encode i = .full w := by
  unfold decodeCvt at h
  split at h
  case h_1 hrs2 =>
    exact encode_of_decodeFp1 h7 hop hsigned (by simpa [decodeFp1, hrs2] using h)
  case h_2 hrs2 =>
    exact encode_of_decodeFp1 h7 hop hunsigned (by simpa [decodeFp1, hrs2] using h)
  case h_3 => cases h

theorem encode_of_decodeSgnj {j jn jx : Reg → Reg → Reg → Instr}
    (hj : ∀ fd fs1 fs2, encode (j fd fs1 fs2) =
      .full (encR funct7 fs2 fs1 0b000#3 fd 0b1010011#7))
    (hjn : ∀ fd fs1 fs2, encode (jn fd fs1 fs2) =
      .full (encR funct7 fs2 fs1 0b001#3 fd 0b1010011#7))
    (hjx : ∀ fd fs1 fs2, encode (jx fd fs1 fs2) =
      .full (encR funct7 fs2 fs1 0b010#3 fd 0b1010011#7))
    (h : decodeSgnj w j jn jx = .ok i) : encode i = .full w := by
  unfold decodeSgnj at h
  split at h <;> cases h
  case h_1 h3 => exact (hj _ _ _).trans (congrArg Fetched.full (encR_of_fields h7 h3 hop))
  case h_2 h3 => exact (hjn _ _ _).trans (congrArg Fetched.full (encR_of_fields h7 h3 hop))
  case h_3 h3 => exact (hjx _ _ _).trans (congrArg Fetched.full (encR_of_fields h7 h3 hop))

theorem encode_of_decodeMinMax {mn mx : Reg → Reg → Reg → Instr}
    (hmn : ∀ fd fs1 fs2, encode (mn fd fs1 fs2) =
      .full (encR funct7 fs2 fs1 0b000#3 fd 0b1010011#7))
    (hmx : ∀ fd fs1 fs2, encode (mx fd fs1 fs2) =
      .full (encR funct7 fs2 fs1 0b001#3 fd 0b1010011#7))
    (h : decodeMinMax w mn mx = .ok i) : encode i = .full w := by
  unfold decodeMinMax at h
  split at h <;> cases h
  case h_1 h3 => exact (hmn _ _ _).trans (congrArg Fetched.full (encR_of_fields h7 h3 hop))
  case h_2 h3 => exact (hmx _ _ _).trans (congrArg Fetched.full (encR_of_fields h7 h3 hop))

/-- Comparisons and sign injections have the same three values of `funct3`. -/
theorem encode_of_decodeCmp {le lt eq : Reg → Reg → Reg → Instr}
    (hle : ∀ rd fs1 fs2, encode (le rd fs1 fs2) =
      .full (encR funct7 fs2 fs1 0b000#3 rd 0b1010011#7))
    (hlt : ∀ rd fs1 fs2, encode (lt rd fs1 fs2) =
      .full (encR funct7 fs2 fs1 0b001#3 rd 0b1010011#7))
    (heq : ∀ rd fs1 fs2, encode (eq rd fs1 fs2) =
      .full (encR funct7 fs2 fs1 0b010#3 rd 0b1010011#7))
    (h : decodeCmp w le lt eq = .ok i) : encode i = .full w :=
  encode_of_decodeSgnj h7 hop hle hlt heq h

end

theorem encode_of_decodeOpFp (hop : fOp w = 0b1010011#7) (h : decodeOpFp w = .ok i) :
    encode i = .full w := by
  unfold decodeOpFp at h
  split at h
  case h_1 h7 | h_2 h7 | h_3 h7 | h_4 h7 | h_5 h7 | h_6 h7 | h_7 h7 | h_8 h7 =>
    exact encode_of_decodeFpRR h7 hop (fun _ _ _ _ => rfl) h
  case h_9 h7 | h_10 h7 | h_24 h7 | h_25 h7 =>
    exact encode_of_decodeFp1 h7 hop (fun _ _ _ => rfl) h
  case h_11 h7 | h_12 h7 =>
    exact encode_of_decodeSgnj h7 hop (fun _ _ _ => rfl) (fun _ _ _ => rfl) (fun _ _ _ => rfl) h
  case h_13 h7 | h_14 h7 =>
    exact encode_of_decodeMinMax h7 hop (fun _ _ _ => rfl) (fun _ _ _ => rfl) h
  case h_15 h7 | h_16 h7 =>
    exact encode_of_decodeCmp h7 hop (fun _ _ _ => rfl) (fun _ _ _ => rfl) (fun _ _ _ => rfl) h
  case h_17 h7 | h_18 h7 | h_23 h7 =>
    split at h
    next hrs2 =>
      split at h <;> cases h
      all_goals
        rw [encode, ← hrs2]
        exact congrArg Fetched.full (encR_of_fields h7 ‹_› hop)
    next => cases h
  case h_19 h7 | h_20 h7 | h_21 h7 | h_22 h7 =>
    exact encode_of_decodeCvt h7 hop (fun _ _ _ => rfl) (fun _ _ _ => rfl) h
  case h_26 => cases h

theorem encode_of_decodeFull (h : decodeFull w = .ok i) : encode i = .full w := by
  unfold decodeFull at h
  split at h
  case h_1 hop => exact encode_of_decodeLoad hop h
  case h_2 hop | h_17 hop =>
    split at h <;> cases h
    all_goals exact congrArg Fetched.full (encI_of_fields ‹_› hop)
  case h_3 hop => exact encode_of_decodeOpImm hop h
  case h_4 hop | h_9 hop => cases h; exact congrArg Fetched.full (encU_of_fields hop)
  case h_5 hop => exact encode_of_decodeOpImm32 hop h
  case h_6 hop => exact encode_of_decodeStore hop h
  case h_7 hop =>
    split at h <;> cases h
    all_goals exact congrArg Fetched.full (encS_of_fields ‹_› hop)
  case h_8 hop => exact encode_of_decodeOp hop h
  case h_10 hop => exact encode_of_decodeOp32 hop h
  case h_11 hop | h_12 hop | h_13 hop | h_14 hop =>
    exact encode_of_decodeR4 (fun _ _ _ _ _ => rfl) (fun _ _ _ _ _ => rfl) hop h
  case h_15 hop => exact encode_of_decodeOpFp hop h
  case h_16 hop => exact encode_of_decodeBranch hop h
  case h_18 hop => cases h; exact congrArg Fetched.full (encJ_of_fields hop)
  case h_19 hop => exact encode_of_decodeSystem hop h
  case h_20 => cases h

end

section
variable {h : BitVec 16} {i : Instr}

theorem encode_of_decodeQuadrant0 (hop : cOp h = 0b00#2) (hi : decodeQuadrant0 h = .ok i) :
    encode i = .half h := by
  unfold decodeQuadrant0 at hi
  split at hi <;> cases hi
  case h_1 h3 => exact congrArg Fetched.half (encCIW_of_fields h3 hop)
  case h_2 h3 | h_5 h3 => exact congrArg Fetched.half (encCLd_of_fields h3 hop)
  case h_3 h3 | h_4 h3 | h_6 h3 | h_7 h3 => exact congrArg Fetched.half (encCLw_of_fields h3 hop)

theorem eq_three_of_ne (c : BitVec 2) (h0 : c ≠ 0b00#2) (h1 : c ≠ 0b01#2) (h2 : c ≠ 0b10#2) :
    c = 0b11#2 := by
  bv_omega

theorem encode_of_decodeCArith (h3 : cFunct3 h = 0b100#3) (hop : cOp h = 0b01#2)
    (hi : decodeCArith h = .ok i) : encode i = .half h := by
  unfold decodeCArith at hi
  split at hi
  case h_1 h2 | h_2 h2 =>
    split at hi <;> cases hi
    rename_i hbit
    rw [encode, append_cShamt hbit]
    exact congrArg Fetched.half (encCBx_of_fields h3 h2 hop)
  case h_3 h2 => cases hi; exact congrArg Fetched.half (encCBx_of_fields h3 h2 hop)
  case h_4 hn0 hn1 hn2 =>
    have hminor : cFunct2b h = 0b11#2 := eq_three_of_ne _ hn0 hn1 hn2
    split at hi
    next hbit =>
      split at hi <;> cases hi
      case h_1 h2 | h_2 h2 | h_3 h2 =>
        exact congrArg Fetched.half (encCSx_of_fields rfl h3 hbit hminor h2 hop)
      case h_4 hm0 hm1 hm2 =>
        exact congrArg Fetched.half
          (encCSx_of_fields rfl h3 hbit hminor (eq_three_of_ne _ hm0 hm1 hm2) hop)
    next => cases hi

theorem eq_seven_of_ne (c : BitVec 3) (h0 : c ≠ 0b000#3) (h1 : c ≠ 0b001#3) (h2 : c ≠ 0b010#3)
    (h3 : c ≠ 0b011#3) (h4 : c ≠ 0b100#3) (h5 : c ≠ 0b101#3) (h6 : c ≠ 0b110#3) : c = 0b111#3 := by
  bv_omega

theorem encode_of_decodeQuadrant1 (hop : cOp h = 0b01#2) (hi : decodeQuadrant1 h = .ok i) :
    encode i = .half h := by
  unfold decodeQuadrant1 at hi
  split at hi
  case h_1 h3 =>
    have hword := encCI_of_fields h3 hop
    split at hi <;> cases hi
    case isTrue hnop =>
      obtain ⟨hrd, himm⟩ := hnop
      rw [hrd, himm] at hword
      exact congrArg Fetched.half hword
    case isFalse => exact congrArg Fetched.half hword
  case h_2 h3 | h_6 h3 => cases hi; exact congrArg Fetched.half (encCJ_of_fields h3 hop)
  case h_3 h3 => cases hi; exact congrArg Fetched.half (encCI_of_fields h3 hop)
  case h_4 h3 =>
    split at hi <;> cases hi
    case isTrue hsp => exact congrArg Fetched.half (encCI16_of_fields h3 hsp hop)
    case isFalse => exact congrArg Fetched.half (encCI_of_fields h3 hop)
  case h_5 h3 => exact encode_of_decodeCArith h3 hop hi
  case h_7 h3 => cases hi; exact congrArg Fetched.half (encCB_of_fields h3 hop)
  case h_8 hn0 hn1 hn2 hn3 hn4 hn5 hn6 =>
    cases hi
    exact congrArg Fetched.half
      (encCB_of_fields (eq_seven_of_ne _ hn0 hn1 hn2 hn3 hn4 hn5 hn6) hop)

theorem eq_one_of_ne (c : BitVec 1) (h0 : c ≠ 0#1) : c = 1#1 := by
  bv_omega

theorem encode_of_decodeQuadrant2 (hop : cOp h = 0b10#2) (hi : decodeQuadrant2 h = .ok i) :
    encode i = .half h := by
  unfold decodeQuadrant2 at hi
  split at hi
  case h_1 h3 =>
    split at hi <;> cases hi
    rename_i hbit
    rw [encode, append_cShamt hbit]
    exact congrArg Fetched.half (encCI_of_fields h3 hop)
  case h_2 h3 => cases hi; exact congrArg Fetched.half (encCIdsp_of_fields h3 hop)
  case h_3 h3 | h_4 h3 => cases hi; exact congrArg Fetched.half (encCIwsp_of_fields h3 hop)
  case h_5 h3 =>
    split at hi
    next hbit =>
      have hword := encCR_of_fields rfl h3 hbit hop
      split at hi <;> cases hi
      case isTrue hrs2 => rw [hrs2] at hword; exact congrArg Fetched.half hword
      case isFalse => exact congrArg Fetched.half hword
    next hbit =>
      have hword := encCR_of_fields rfl h3 (eq_one_of_ne _ hbit) hop
      split at hi
      next hrs2 =>
        rw [hrs2] at hword
        split at hi <;> cases hi
        case isTrue hrd => rw [hrd] at hword; exact congrArg Fetched.half hword
        case isFalse => exact congrArg Fetched.half hword
      next => cases hi; exact congrArg Fetched.half hword
  case h_6 h3 => cases hi; exact congrArg Fetched.half (encCSSd_of_fields h3 hop)
  case h_7 h3 => cases hi; exact congrArg Fetched.half (encCSSw_of_fields h3 hop)
  case h_8 hn0 hn1 hn2 hn3 hn4 hn5 hn6 =>
    cases hi
    exact congrArg Fetched.half
      (encCSSw_of_fields (eq_seven_of_ne _ hn0 hn1 hn2 hn3 hn4 hn5 hn6) hop)

theorem encode_of_decodeHalf (hi : decodeHalf h = .ok i) : encode i = .half h := by
  unfold decodeHalf at hi
  split at hi
  case h_1 hop => exact encode_of_decodeQuadrant0 hop hi
  case h_2 hop => exact encode_of_decodeQuadrant1 hop hi
  case h_3 hop => exact encode_of_decodeQuadrant2 hop hi
  case h_4 => cases hi

end

theorem encode_of_decodeBits {x : Fetched} {i : Instr} (h : decodeBits x = .ok i) :
    encode i = x := by
  cases x with
  | half _ => exact encode_of_decodeHalf h
  | full _ => exact encode_of_decodeFull h

/-- Settles O2: the encoding of the row found is the value, and decoding accepts only rows of the machine. -/
theorem encodeDecode : Obligations.EncodeDecode := by
  intro isa x i h
  obtain ⟨hbits, hwf⟩ := decode_ok_iff.1 h
  exact ⟨encode_of_decodeBits hbits, hwf⟩

end Sys2Proof
end


section
/-! The decoder on bytes, and the values that are no instructions (`spec/30_encoding.md` R101, R119 to R123,
R129, R130, R135). -/

namespace Sys2Proof

open Machine (Rejected fetchedBytes rejected_of_decodeBits_error rejected_of_illFormed)

/-! ## Bytes -/

/-- `Sys2Proof.Laws.LengthTag` for every instruction at once. -/
theorem lengthTag_encode (i : Instr) : Laws.LengthTag.Tagged (encode i) := by
  cases i
  case cAddi4spn | cFld | cLw | cFlw | cFsd | cSw | cFsw | cNop | cAddi | cJal | cLi | cLui | cAddi16sp
      | cSrli | cSrai | cAndi | cSub | cXor | cOr | cAnd | cJ | cBeqz | cBnez | cSlli | cFldsp | cLwsp
      | cFlwsp | cJr | cMv | cEbreak | cJalr | cAdd | cFsdsp | cSwsp | cFswsp =>
    exact Laws.isHalf_append _ _ (by decide)
  all_goals exact Laws.isFull_append _ _ rfl

theorem parcel_extract_low (v : BitVec 16) : parcel (v.extractLsb' 0 8) (v.extractLsb' 8 8) = v := by
  simp (disch := decide) only [parcel, BitVec.extractLsb'_append_extractLsb'_eq_extractLsb',
    BitVec.extractLsb'_eq_self]

theorem parcel_low_of_full (w : BitVec 32) :
    parcel (w.extractLsb' 0 8) (w.extractLsb' 8 8) = w.extractLsb' 0 16 := by
  simp (disch := decide) only [parcel, BitVec.extractLsb'_append_extractLsb'_eq_extractLsb']

theorem parcels_of_full (w : BitVec 32) :
    parcel (w.extractLsb' 16 8) (w.extractLsb' 24 8) ++ parcel (w.extractLsb' 0 8) (w.extractLsb' 8 8)
      = w := by
  simp (disch := decide) only [parcel, BitVec.extractLsb'_append_extractLsb'_eq_extractLsb',
    BitVec.extractLsb'_eq_self]

/-- Bytes whose length tag is right are decoded as the value they are the bytes of. -/
theorem decodeBytes_fetchedBytes {x : Fetched} (isa : Isa) (rest : List Byte)
    (htag : Laws.LengthTag.Tagged x) :
    decodeBytes isa (fetchedBytes x ++ rest) = (decode isa x).map (·, rest) := by
  cases x with
  | half h =>
    rw [Laws.LengthTag.Tagged] at htag
    simp [fetchedBytes, decodeBytes, parcel_extract_low, htag]
  | full w =>
    rw [Laws.LengthTag.Tagged, ← parcel_low_of_full] at htag
    simp only [fetchedBytes, List.cons_append, List.nil_append, decodeBytes, htag, if_true,
      parcels_of_full]

/-- Settles O3: the length tag says how many bytes are taken, and they decode by O1. -/
theorem decodeBytesOfEncoding : Obligations.DecodeBytesOfEncoding := by
  intro isa i rest hwf
  rw [decodeBytes_fetchedBytes isa rest (lengthTag_encode i), decodeEncode isa i hwf]
  rfl

/-- Settles O4: the decoder is run on each word. -/
theorem writtenWordsDecode : Obligations.WrittenWordsDecode :=
  ⟨rfl, rfl, rfl, rfl, rfl, rfl, rfl, rfl, rfl, rfl⟩

/-! ## Rejection -/

/-- A value is rejected when no row of the machine has its bits. -/
theorem rejected_iff {isa : Isa} {x : Fetched} :
    Rejected isa x ↔ ∀ i, decodeBits x = .ok i → i.wf isa = false := by
  constructor
  · rintro ⟨r, hr⟩ i hbits
    refine eq_false_of_ne_true fun hwf => ?_
    rw [decode_ok_iff.2 ⟨hbits, hwf⟩] at hr
    cases hr
  · intro h
    cases hx : decode isa x with
    | error r => exact ⟨r, hx⟩
    | ok i =>
      obtain ⟨hbits, hwf⟩ := decode_ok_iff.1 hx
      rw [h i hbits] at hwf
      cases hwf

theorem rejected_of_not_wf {isa : Isa} {x : Fetched} {i : Instr} (hbits : decodeBits x = .ok i)
    (hwf : ¬i.wf isa = true) : Rejected isa x := by
  rw [rejected_iff]
  intro j hj
  rw [hbits] at hj
  cases hj
  simpa using hwf

/-- The six bits that `c.addi4spn` scatters are its eight immediate bits in another order. -/
theorem cImm4spn_eq_zero {h : BitVec 16} (hzero : h.extractLsb' 5 8 = 0#8) : cImm4spn h = 0#8 := by
  have hpieces : cImm4spn h = (h.extractLsb' 5 8).extractLsb' 2 4 ++ (h.extractLsb' 5 8).extractLsb' 6 2
      ++ (h.extractLsb' 5 8).extractLsb' 0 1 ++ (h.extractLsb' 5 8).extractLsb' 1 1 := by
    simp (disch := decide) only [cImm4spn, extractLsb'_extractLsb']
  rw [hpieces, hzero]
  rfl

theorem cImm6_eq_zero {h : BitVec 16} (h12 : h.extractLsb' 12 1 = 0#1) (h2 : h.extractLsb' 2 5 = 0#5) :
    cImm6 h = 0#6 := by
  rw [cImm6, h12, h2]
  rfl

theorem cImm16sp_eq_zero {h : BitVec 16} (h12 : h.extractLsb' 12 1 = 0#1)
    (h2 : h.extractLsb' 2 5 = 0#5) : cImm16sp h = 0#6 := by
  have hpieces : cImm16sp h = h.extractLsb' 12 1 ++ (h.extractLsb' 2 5).extractLsb' 1 2
      ++ (h.extractLsb' 2 5).extractLsb' 3 1 ++ (h.extractLsb' 2 5).extractLsb' 0 1
      ++ (h.extractLsb' 2 5).extractLsb' 4 1 := by
    simp (disch := decide) only [cImm16sp, extractLsb'_extractLsb']
  rw [hpieces, h12, h2]
  rfl

/-- The fields of the 16-bit rows that share `instr[15:10]`. -/
theorem cFunct3_eq_of_top {h : BitVec 16} {top : BitVec 6} (htop : h.extractLsb' 10 6 = top) :
    cFunct3 h = top.extractLsb' 3 3 ∧ cBit12 h = top.extractLsb' 2 1 ∧
      cFunct2b h = top.extractLsb' 0 2 := by
  subst htop
  simp (disch := decide) only [cFunct3, cBit12, cFunct2b, extractLsb'_extractLsb', and_self]

/-- Bit 11 tells the shifts of `100---` from the other rows. -/
theorem cFunct2b_of_bit11 {h : BitVec 16} (h11 : h.extractLsb' 11 1 = 0#1) :
    cFunct2b h = 0b00#2 ∨ cFunct2b h = 0b01#2 := by
  have hpieces : cFunct2b h = h.extractLsb' 11 1 ++ h.extractLsb' 10 1 := by
    simp (disch := decide) only [cFunct2b, BitVec.extractLsb'_append_extractLsb'_eq_extractLsb']
  rw [hpieces, h11]
  generalize h.extractLsb' 10 1 = b
  revert b
  decide

section
variable {isa : Isa} {h : BitVec 16}

/-- A 16-bit row that only a machine with `D`, or only one with `F`, has. -/
theorem not_wf_of_fp_half {i : Instr} (hhalf : decodeHalf h = .ok i)
    (hop : cOp h = 0#2 ∨ cOp h = 2#2) :
    (isa.hasD = false → (cFunct3 h = 1#3 ∨ cFunct3 h = 5#3) → i.wf isa = false) ∧
    (isa.hasF = false → (cFunct3 h = 3#3 ∨ cFunct3 h = 7#3) → i.wf isa = false) := by
  constructor
  all_goals
    intro hext h3
    obtain hop | hop := hop
    all_goals
      obtain h3 | h3 := h3
      all_goals
        simp only [decodeHalf, hop, decodeQuadrant0, decodeQuadrant2, h3] at hhalf
        cases hhalf
        cases hC : isa.hasC <;> simp [Instr.wf, Instr.illFormed, IllFormed.unless, hext, hC]

end

/-- Settles O5, clause by clause: the value has no row, or it has one whose side condition fails. -/
theorem reservedHalfwordsRejected : Obligations.ReservedHalfwordsRejected := by
  intro isa h
  refine ⟨?noRow, ?zero4spn, ?zeroLui, ?largeShift, ?largeSlli, ?hole, ?lwspX0, ?jrX0, ?needsD,
    ?needsF⟩
  case noRow =>
    rintro ⟨hop, h3⟩
    refine rejected_of_decodeBits_error (r := .unlistedMinor) isa ?_
    simp [decodeBits, decodeHalf, decodeQuadrant0, cOp, cFunct3, hop, h3]
  case zero4spn =>
    rintro ⟨hop, h3, hzero⟩
    refine rejected_of_not_wf (i := .cAddi4spn (cLowReg h) 0#8) ?_ ?_
    · simp [decodeBits, decodeHalf, decodeQuadrant0, cOp, cFunct3, hop, h3, cImm4spn_eq_zero hzero]
    · simp [Instr.wf_iff, Instr.illFormed, IllFormed.unless_eq_none]
  case zeroLui =>
    rintro ⟨hop, h3, h12, h2⟩
    by_cases hsp : cRd h = 2#5
    · refine rejected_of_not_wf (i := .cAddi16sp 0#6) ?_ ?_
      · simp [decodeBits, decodeHalf, decodeQuadrant1, cOp, cFunct3, hop, h3, hsp,
          cImm16sp_eq_zero h12 h2]
      · simp [Instr.wf_iff, Instr.illFormed, IllFormed.unless_eq_none]
    · refine rejected_of_not_wf (i := .cLui (cRd h) 0#6) ?_ ?_
      · simp [decodeBits, decodeHalf, decodeQuadrant1, cOp, cFunct3, hop, h3, hsp, cImm6_eq_zero h12 h2]
      · simp [Instr.wf_iff, Instr.illFormed, IllFormed.unless_eq_none]
  case largeShift =>
    rintro ⟨hop, h3, h11, h12⟩
    refine rejected_of_decodeBits_error (r := .unlistedMinor) isa ?_
    obtain h2 | h2 := cFunct2b_of_bit11 h11 <;>
      simp [decodeBits, decodeHalf, decodeQuadrant1, decodeCArith, cOp, cFunct3, cBit12, hop, h3, h2, h12]
  case largeSlli =>
    rintro ⟨hop, h3, h12⟩
    refine rejected_of_decodeBits_error (r := .unlistedMinor) isa ?_
    simp [decodeBits, decodeHalf, decodeQuadrant2, cOp, cFunct3, cBit12, hop, h3, h12]
  case hole =>
    rintro ⟨hop, htop⟩
    obtain ⟨h3, h12, h2⟩ := cFunct3_eq_of_top htop
    refine rejected_of_decodeBits_error (r := .unlistedMinor) isa ?_
    simp [decodeBits, decodeHalf, decodeQuadrant1, decodeCArith, cOp, hop, h3, h12, h2]
  case lwspX0 =>
    rintro ⟨hop, h3, hrd⟩
    refine rejected_of_not_wf (i := .cLwsp 0#5 (cImmWsp h)) ?_ ?_
    · simp [decodeBits, decodeHalf, decodeQuadrant2, cOp, cFunct3, cRd, hop, h3, hrd]
    · simp [Instr.wf_iff, Instr.illFormed, IllFormed.unless_eq_none]
  case jrX0 =>
    rintro rfl
    refine rejected_of_not_wf (i := .cJr 0#5) rfl ?_
    simp [Instr.wf_iff, Instr.illFormed, IllFormed.unless_eq_none]
  case needsD =>
    rintro ⟨hD, hop, h3⟩
    exact rejected_iff.2 fun i hi => (not_wf_of_fp_half hi hop).1 hD h3
  case needsF =>
    rintro ⟨hF, hop, h3⟩
    exact rejected_iff.2 fun i hi => (not_wf_of_fp_half hi hop).2 hF h3

/-! ## Words of other machines -/

section
variable {w : BitVec 32} {i : Instr}

/-- The opcodes that R120 lists. -/
theorem op_of_decodeFull (h : decodeFull w = .ok i) :
    fOp w ∈ [0b0000011#7, 0b0000111#7, 0b0010011#7, 0b0010111#7, 0b0011011#7, 0b0100011#7,
      0b0100111#7, 0b0110011#7, 0b0110111#7, 0b0111011#7, 0b1000011#7, 0b1000111#7, 0b1001011#7,
      0b1001111#7, 0b1010011#7, 0b1100011#7, 0b1100111#7, 0b1101111#7, 0b1110011#7] := by
  unfold decodeFull at h
  split at h
  case h_20 => cases h
  all_goals simp [*]

/-- Both conditions on the extensions that a row of a precision puts: `D` comes with `F`. -/
structure NeedsFp (isa : Isa) (i : Instr) (double : Prop) : Prop where
  f : i.wf isa = true → isa.hasF = true
  d : double → i.wf isa = true → isa.hasD = true

theorem Isa.hasF_of_hasD {isa : Isa} (h : isa.hasD = true) : isa.hasF = true := by
  revert h
  cases hfp : isa.fp <;> simp [Isa.hasD, Isa.hasF, hfp]

theorem needsFp_of_single {isa : Isa} {double : Prop}
    (hill : i.illFormed isa = IllFormed.unless isa.hasF .needsF) (hsingle : ¬double) :
    NeedsFp isa i double where
  f hwf := by rwa [Instr.wf_iff, hill, IllFormed.unless_eq_none] at hwf
  d hdouble := absurd hdouble hsingle

theorem needsFp_of_double {isa : Isa} {double : Prop}
    (hill : i.illFormed isa = IllFormed.unless isa.hasD .needsD) : NeedsFp isa i double where
  f hwf := Isa.hasF_of_hasD (by rwa [Instr.wf_iff, hill, IllFormed.unless_eq_none] at hwf)
  d _ hwf := by rwa [Instr.wf_iff, hill, IllFormed.unless_eq_none] at hwf

theorem fFmt_eq (w : BitVec 32) : fFmt w = (fFunct7 w).extractLsb' 0 2 := by
  simp (disch := decide) only [fFmt, fFunct7, extractLsb'_extractLsb']

theorem fFs3_eq (w : BitVec 32) : fFs3 w = (fFunct7 w).extractLsb' 2 5 := by
  simp (disch := decide) only [fFs3, fFunct7, extractLsb'_extractLsb']

/-- What the bits of a floating-point row say of the precisions it needs (R119, R136): `fmt`, or `f5` of
the conversions between the precisions. -/
def DoubleBits (w : BitVec 32) : Prop := fFmt w = 1#2 ∨ fOp w = 0b1010011#7 ∧ fFs3 w = 0b01000#5

theorem decodeR4_needs {isa : Isa} {single double : Reg → Reg → Reg → Reg → RmField → Instr}
    (hsingle : ∀ fd fs1 fs2 fs3 rm,
      (single fd fs1 fs2 fs3 rm).illFormed isa = IllFormed.unless isa.hasF .needsF)
    (hdouble : ∀ fd fs1 fs2 fs3 rm,
      (double fd fs1 fs2 fs3 rm).illFormed isa = IllFormed.unless isa.hasD .needsD)
    (hop : fOp w ≠ 0b1010011#7) (h : decodeR4 w single double = .ok i) :
    (fFmt w = 0#2 ∨ fFmt w = 1#2) ∧ NeedsFp isa i (DoubleBits w) := by
  unfold decodeR4 at h
  split at h
  case h_1 hfmt =>
    obtain ⟨rm, -, rfl⟩ := withRmField_eq_ok.1 h
    exact ⟨.inl hfmt, needsFp_of_single (hsingle _ _ _ _ _) (by simp [DoubleBits, hfmt, hop])⟩
  case h_2 hfmt =>
    obtain ⟨rm, -, rfl⟩ := withRmField_eq_ok.1 h
    exact ⟨.inr hfmt, needsFp_of_double (hdouble _ _ _ _ _)⟩
  case h_3 => cases h

theorem exists_of_decodeFpRR {k : Reg → Reg → Reg → RmField → Instr} (h : decodeFpRR w k = .ok i) :
    ∃ a b c rm, i = k a b c rm := by
  obtain ⟨rm, -, rfl⟩ := withRmField_eq_ok.1 h
  exact ⟨_, _, _, rm, rfl⟩

theorem exists_of_decodeFp1 {c : Reg} {k : Reg → Reg → RmField → Instr}
    (h : decodeFp1 w c k = .ok i) : ∃ a b rm, i = k a b rm := by
  unfold decodeFp1 at h
  split at h
  next =>
    obtain ⟨rm, -, rfl⟩ := withRmField_eq_ok.1 h
    exact ⟨_, _, rm, rfl⟩
  next => cases h

theorem exists_of_decodeCvt {signed unsigned : Reg → Reg → RmField → Instr}
    (h : decodeCvt w signed unsigned = .ok i) :
    (∃ a b rm, i = signed a b rm) ∨ (∃ a b rm, i = unsigned a b rm) := by
  unfold decodeCvt at h
  split at h
  case h_1 =>
    obtain ⟨rm, -, rfl⟩ := withRmField_eq_ok.1 h
    exact .inl ⟨_, _, rm, rfl⟩
  case h_2 =>
    obtain ⟨rm, -, rfl⟩ := withRmField_eq_ok.1 h
    exact .inr ⟨_, _, rm, rfl⟩
  case h_3 => cases h

/-- Op `1010011`: the low two bits of `funct7` are the precision, and a row of precision 1 and a conversion
between the precisions need `D`. -/
theorem decodeOpFp_needs {isa : Isa} (h : decodeOpFp w = .ok i) :
    (fFmt w = 0#2 ∨ fFmt w = 1#2) ∧ NeedsFp isa i (DoubleBits w) := by
  rw [DoubleBits, fFmt_eq, fFs3_eq]
  unfold decodeOpFp at h
  split at h
  case h_26 => cases h
  all_goals
    rename_i h7
    rw [h7]
    refine ⟨by decide, ?_⟩
  case h_1 | h_3 | h_5 | h_7 =>
    obtain ⟨a, b, c, rm, rfl⟩ := exists_of_decodeFpRR h
    exact needsFp_of_single rfl (by simp)
  case h_2 | h_4 | h_6 | h_8 =>
    obtain ⟨a, b, c, rm, rfl⟩ := exists_of_decodeFpRR h
    exact needsFp_of_double rfl
  case h_9 =>
    obtain ⟨a, b, rm, rfl⟩ := exists_of_decodeFp1 h
    exact needsFp_of_single rfl (by simp)
  case h_10 | h_24 | h_25 =>
    obtain ⟨a, b, rm, rfl⟩ := exists_of_decodeFp1 h
    exact needsFp_of_double rfl
  case h_11 | h_13 | h_15 =>
    simp only [decodeSgnj, decodeMinMax, decodeCmp] at h
    split at h <;> cases h
    all_goals exact needsFp_of_single rfl (by simp)
  case h_12 | h_14 | h_16 =>
    simp only [decodeSgnj, decodeMinMax, decodeCmp] at h
    split at h <;> cases h
    all_goals exact needsFp_of_double rfl
  case h_17 | h_23 =>
    split at h
    next =>
      split at h <;> cases h
      all_goals exact needsFp_of_single rfl (by simp)
    next => cases h
  case h_18 =>
    split at h
    next =>
      split at h <;> cases h
      exact needsFp_of_double rfl
    next => cases h
  case h_19 | h_21 =>
    obtain ⟨a, b, rm, rfl⟩ | ⟨a, b, rm, rfl⟩ := exists_of_decodeCvt h
    all_goals exact needsFp_of_single rfl (by simp)
  case h_20 | h_22 =>
    obtain ⟨a, b, rm, rfl⟩ | ⟨a, b, rm, rfl⟩ := exists_of_decodeCvt h
    all_goals exact needsFp_of_double rfl

/-- The opcodes of the floating-point computations. -/
def FpOp (op : BitVec 7) : Prop :=
  op = 0b1000011#7 ∨ op = 0b1000111#7 ∨ op = 0b1001011#7 ∨ op = 0b1001111#7 ∨ op = 0b1010011#7

theorem decodeFull_needs_of_fpOp {isa : Isa} (hop : FpOp (fOp w)) (h : decodeFull w = .ok i) :
    (fFmt w = 0#2 ∨ fFmt w = 1#2) ∧ NeedsFp isa i (DoubleBits w) := by
  unfold decodeFull at h
  obtain hop | hop | hop | hop | hop := hop <;> rw [hop] at h
  case inr.inr.inr.inr => exact decodeOpFp_needs h
  all_goals
    exact decodeR4_needs (fun _ _ _ _ _ => rfl) (fun _ _ _ _ _ => rfl) (by rw [hop]; decide) h

/-- The floating-point loads and stores: `funct3` is the precision. -/
theorem decodeFull_needs_of_access {isa : Isa} (hop : fOp w = 0b0000111#7 ∨ fOp w = 0b0100111#7)
    (h : decodeFull w = .ok i) : NeedsFp isa i (fFunct3 w = 3#3) := by
  obtain hop | hop := hop
  all_goals
    simp only [decodeFull, hop] at h
    split at h <;> cases h
    next h3 => exact needsFp_of_single rfl (by simp [h3])
    next => exact needsFp_of_double rfl

/-- The rows of Table B.2 (R135 (a)). -/
theorem decodeFull_needs_xlen64 {isa : Isa} (hx : isa.xlen = .x32)
    (hrow : fOp w = 0b0011011#7 ∨ fOp w = 0b0111011#7 ∨
      (fOp w = 0b0000011#7 ∧ (fFunct3 w = 3#3 ∨ fFunct3 w = 6#3)) ∨
      (fOp w = 0b0100011#7 ∧ fFunct3 w = 3#3)) (h : decodeFull w = .ok i) : i.wf isa = false := by
  have hlacks : ∀ j : Instr, j.illFormed isa = IllFormed.unless (isa.xlen == .x64) .needsXlen64 →
      j.wf isa = false := by
    intro j hj
    simp [Instr.wf, hj, IllFormed.unless, hx]
  unfold decodeFull at h
  obtain hop | hop | ⟨hop, h3 | h3⟩ | ⟨hop, h3⟩ := hrow <;> rw [hop] at h
  case inl =>
    simp only [decodeOpImm32] at h
    split at h
    case h_1 => cases h; exact hlacks _ rfl
    case h_2 | h_3 =>
      split at h <;> cases h
      all_goals exact hlacks _ rfl
    case h_4 => cases h
  case inr.inl =>
    simp only [decodeOp32] at h
    split at h
    case h_1 | h_2 =>
      split at h <;> cases h
      all_goals exact hlacks _ rfl
    case h_3 => cases h
  all_goals
    simp only [decodeLoad, decodeStore, h3] at h
    cases h
    exact hlacks _ rfl

/-- A shift amount of 32 or more (R135 (b)). -/
theorem shamtFits_of_bit5 {shamt : BitVec 6} (hbit : shamt.extractLsb' 5 1 = 1#1) :
    shamtFits .x32 shamt = false := by
  revert hbit shamt
  decide

theorem decodeFull_shamt {isa : Isa} (hx : isa.xlen = .x32) (hop : fOp w = 0b0010011#7)
    (h3 : fFunct3 w = 1#3 ∨ fFunct3 w = 5#3) (hbit : w.extractLsb' 25 1 = 1#1)
    (h : decodeFull w = .ok i) : i.wf isa = false := by
  have hlarge : shamtFits .x32 (fShamt w) = false := by
    refine shamtFits_of_bit5 ?_
    simpa (disch := decide) only [fShamt, extractLsb'_extractLsb'] using hbit
  unfold decodeFull at h
  rw [hop] at h
  obtain h3 | h3 := h3
  all_goals
    simp only [decodeOpImm, h3] at h
    split at h <;> cases h
    all_goals simp [Instr.wf, Instr.illFormed, IllFormed.unless, hx, hlarge]

theorem decodeFull_needs_s {isa : Isa} (hS : isa.s = false) (hop : fOp w = 0b1110011#7)
    (h : decodeFull w = .ok i) : i.wf isa = false := by
  have hlacks : ∀ j : Instr, j.illFormed isa = IllFormed.unless isa.s .needsS → j.wf isa = false := by
    intro j hj
    simp [Instr.wf, hj, IllFormed.unless, hS]
  unfold decodeFull at h
  rw [hop] at h
  simp only [decodeSystem] at h
  split at h
  case h_1 =>
    split at h
    next =>
      split at h <;> cases h
      all_goals exact hlacks _ rfl
    next => cases h
  all_goals cases h
  all_goals exact hlacks _ rfl

theorem decodeFull_needs_m {isa : Isa} (hM : isa.m = false) (hop : fOp w = 0b0110011#7)
    (h7 : fFunct7 w = 1#7) (h : decodeFull w = .ok i) : i.wf isa = false := by
  unfold decodeFull at h
  rw [hop] at h
  simp only [decodeOp, h7] at h
  split at h <;> cases h
  all_goals simp [Instr.wf, Instr.illFormed, IllFormed.unless, hM]

end

/-- Every 16-bit row needs `C`. -/
theorem hasC_of_encode_half {isa : Isa} {i : Instr} {h : BitVec 16} (henc : encode i = .half h)
    (hwf : i.wf isa = true) : isa.hasC = true := by
  rw [Instr.wf_iff] at hwf
  cases i
  case cAddi4spn | cFld | cLw | cFlw | cFsd | cSw | cFsw | cNop | cAddi | cJal | cLi | cLui | cAddi16sp
      | cSrli | cSrai | cAndi | cSub | cXor | cOr | cAnd | cJ | cBeqz | cBnez | cSlli | cFldsp | cLwsp
      | cFlwsp | cJr | cMv | cEbreak | cJalr | cAdd | cFsdsp | cSwsp | cFswsp =>
    simp only [Instr.illFormed, Option.or_eq_none_iff, IllFormed.unless_eq_none] at hwf
    simp only [hwf]
  all_goals cases henc

/-- Settles O6, clause by clause: a value with none of the machine's rows is rejected, and each clause says
why a row with such bits is not one of the machine's. -/
theorem unlistedWordsRejected : Obligations.UnlistedWordsRejected := by
  intro isa w h
  refine ⟨fun hop => ?unlisted, fun hx hrow => ?xlen, fun hx hop h3 hbit => ?shamt, fun hC => ?half,
    fun hS hop => ?system, fun hM hop h7 => ?mul, fun hop hfmt => ?format, fun hF hop => ?single,
    fun hD hop => ?double⟩ <;> refine rejected_iff.2 fun i hi => ?_
  case unlisted => exact absurd (op_of_decodeFull hi) hop
  case xlen => exact decodeFull_needs_xlen64 hx hrow hi
  case shamt => exact decodeFull_shamt hx hop h3 hbit hi
  case half =>
    refine eq_false_of_ne_true fun hwf => ?_
    rw [hasC_of_encode_half (encode_of_decodeBits hi) hwf] at hC
    cases hC
  case system => exact decodeFull_needs_s hS hop hi
  case mul => exact decodeFull_needs_m hM hop h7 hi
  case format =>
    obtain ⟨hlisted, -⟩ := decodeFull_needs_of_fpOp (isa := isa) hop hi
    rw [fFmt] at hlisted
    obtain h0 | h1 := hlisted <;> obtain h2 | h3 := hfmt <;> simp_all
  case single =>
    refine eq_false_of_ne_true fun hwf => ?_
    have hneeds : isa.hasF = true := by
      obtain hop | hop := hop
      · exact (decodeFull_needs_of_access hop hi).f hwf
      · exact (decodeFull_needs_of_fpOp hop hi).2.f hwf
    simp [hF] at hneeds
  case double =>
    refine eq_false_of_ne_true fun hwf => ?_
    have hneeds : isa.hasD = true := by
      obtain ⟨hop, h3⟩ | ⟨hop, hfmt⟩ | ⟨hop, hfs3⟩ := hop
      · exact (decodeFull_needs_of_access hop hi).d h3 hwf
      · exact (decodeFull_needs_of_fpOp hop hi).2.d (.inl hfmt) hwf
      · exact (decodeFull_needs_of_fpOp (.inr (.inr (.inr (.inr hop)))) hi).2.d (.inr ⟨hop, hfs3⟩) hwf
    simp [hD] at hneeds

end Sys2Proof
end


section
/-! Memory: what a read returns after a write to the same and to another address, for single bytes, for
the bytes of a value (`spec/20_memory.md` R73, R74, R80) and for a launch image (`spec/10_state.md` R55). -/

namespace Sys2Proof.Machine

/-! ## Cells -/

theorem lookupCell_insertCell_self (d b : Byte) (a : Nat) (cs : List Host.Cell) :
    lookupCell d a (insertCell a b cs) = b := by
  induction cs with
  | nil => simp [insertCell, lookupCell]
  | cons c cs ih =>
    unfold insertCell
    split
    next => simp [lookupCell]
    next =>
      split
      next => simp [lookupCell]
      next hne => simp [lookupCell, hne, ih]

theorem lookupCell_insertCell_ne (d b : Byte) {a x : Nat} (cs : List Host.Cell) (hx : x ≠ a) :
    lookupCell d x (insertCell a b cs) = lookupCell d x cs := by
  induction cs with
  | nil => simp [insertCell, lookupCell, hx.symm]
  | cons c cs ih =>
    unfold insertCell
    split
    next => simp [lookupCell, hx.symm]
    next =>
      split
      next heq =>
        have hc : c.1 ≠ x := by omega
        simp [lookupCell, hx.symm, hc]
      next => simp [lookupCell, ih]

theorem lookupCell_eraseCell_ne (d : Byte) {a x : Nat} (cs : List Host.Cell) (hx : x ≠ a) :
    lookupCell d x (eraseCell a cs) = lookupCell d x cs := by
  induction cs with
  | nil => rfl
  | cons c cs ih =>
    unfold eraseCell
    split
    next heq =>
      have hc : c.1 ≠ x := by omega
      simp [lookupCell, hc]
    next => simp [lookupCell, ih]

/-- An address below the bound of a canonical list is not listed. -/
theorem lookupCell_of_le_bound {d : Byte} {l a : Nat} {cs : List Host.Cell}
    (hcs : cellsOk d (some l) cs = true) (ha : a ≤ l) : lookupCell d a cs = d := by
  induction cs generalizing l with
  | nil => rfl
  | cons c cs ih =>
    obtain ⟨habove, -, htail⟩ := (cellsOk_cons d (some l) c cs).1 hcs
    have hlt := aboveBound_some.1 habove
    have hc : c.1 ≠ a := by omega
    rw [lookupCell, if_neg hc, ih htail (by omega)]

/-- A canonical list holds an address once, so erasing it leaves it unlisted. -/
theorem lookupCell_eraseCell_self {d : Byte} {lo : Option Nat} (a : Nat) {cs : List Host.Cell}
    (hcs : cellsOk d lo cs = true) : lookupCell d a (eraseCell a cs) = d := by
  induction cs generalizing lo with
  | nil => rfl
  | cons c cs ih =>
    obtain ⟨-, -, htail⟩ := (cellsOk_cons d lo c cs).1 hcs
    unfold eraseCell
    split
    next heq => exact lookupCell_of_le_bound htail (by omega)
    next hne => rw [lookupCell, if_neg hne, ih htail]

/-! ## Bytes -/

theorem Memory.read_write_self {m : Memory} (hm : m.wf = true) (a : Nat) (b : Byte) :
    (m.write a b).read a = b := by
  by_cases hb : b = m.fill
  · simpa [Memory.read, Memory.write, hb] using lookupCell_eraseCell_self a hm
  · simpa [Memory.read, Memory.write, hb] using lookupCell_insertCell_self m.fill b a m.cells

theorem Memory.read_write_ne (m : Memory) {a x : Nat} (b : Byte) (hx : x ≠ a) :
    (m.write a b).read x = m.read x := by
  by_cases hb : b = m.fill
  · simpa [Memory.read, Memory.write, hb] using lookupCell_eraseCell_ne m.fill m.cells hx
  · simpa [Memory.read, Memory.write, hb] using lookupCell_insertCell_ne m.fill b m.cells hx

/-! ## Values -/

theorem Memory.read_writeLE_of_notMem (m : Memory) {as : List Nat} {x : Nat} (v : Word) (hx : x ∉ as) :
    (m.writeLE as v).read x = m.read x := by
  induction as generalizing m v with
  | nil => rfl
  | cons a as ih =>
    obtain ⟨hne, htail⟩ := not_or.1 (mt List.mem_cons.2 hx)
    rw [Memory.writeLE, ih _ _ htail, Memory.read_write_ne m _ hne]

theorem extractLsb'_shiftRight_byte (v : Word) (k : Nat) :
    (v >>> 8).extractLsb' (8 * k) 8 = v.extractLsb' (8 * (k + 1)) 8 := by
  ext j hj
  simp only [BitVec.getElem_extractLsb', BitVec.getLsbD_ushiftRight]
  congr 1
  omega

theorem Memory.read_writeLE_getElem? {m : Memory} (hm : m.wf = true) {as : List Nat} (hnodup : as.Nodup)
    (v : Word) {k a : Nat} (ha : as[k]? = some a) : (m.writeLE as v).read a = v.extractLsb' (8 * k) 8 := by
  induction as generalizing m v k with
  | nil => simp at ha
  | cons b as ih =>
    obtain ⟨hb, htail⟩ := List.nodup_cons.1 hnodup
    cases k with
    | zero =>
      obtain rfl : b = a := by simpa using ha
      rw [Memory.writeLE, Memory.read_writeLE_of_notMem _ _ hb, Memory.read_write_self hm]
      simp [BitVec.setWidth_eq_extractLsb']
    | succ k =>
      rw [Memory.writeLE, ih (m.write_wf hm b _) htail _ (by simpa using ha), extractLsb'_shiftRight_byte]

theorem byteSum_lt (m : Memory) (as : List Nat) : byteSum m as < 256 ^ as.length := by
  induction as with
  | nil => exact Nat.one_pos
  | cons a as ih =>
    have hbyte := (m.read a).isLt
    rw [byteSum, List.length_cons, Nat.pow_succ]
    omega

/-- The number in the bytes stored is the low part of the value. -/
theorem byteSum_writeLE {m : Memory} (hm : m.wf = true) {as : List Nat} (hnodup : as.Nodup) (v : Word) :
    byteSum (m.writeLE as v) as = v.toNat % 256 ^ as.length := by
  induction as generalizing m v with
  | nil => simp [byteSum, Nat.mod_one]
  | cons a as ih =>
    obtain ⟨ha, htail⟩ := List.nodup_cons.1 hnodup
    have hfirst : (m.writeLE (a :: as) v).read a = v.setWidth 8 := by
      rw [Memory.writeLE, Memory.read_writeLE_of_notMem _ _ ha, Memory.read_write_self hm]
    have hrest : byteSum (m.writeLE (a :: as) v) as = (v >>> 8).toNat % 256 ^ as.length :=
      ih (m.write_wf hm a _) htail _
    rw [byteSum, hfirst, hrest, List.length_cons, Nat.pow_succ, Nat.mul_comm _ 256, Nat.mod_mul,
      BitVec.toNat_setWidth, BitVec.toNat_ushiftRight, Nat.shiftRight_eq_div_pow]

/-- A slot has room for the bytes of every access. -/
theorem Memory.toNat_readLE (m : Memory) {as : List Nat} (hlen : as.length ≤ 8) :
    (m.readLE as).toNat = byteSum m as := by
  have hpow : 256 ^ as.length ≤ 256 ^ 8 := Nat.pow_le_pow_right (by decide) hlen
  have hlt := byteSum_lt m as
  rw [Memory.readLE_eq_ofNat_byteSum, BitVec.toNat_ofNat, Nat.mod_eq_of_lt (by omega)]

/-- Settles O21: each clause is the rule of this file about it. -/
theorem storedValueIsLittleEndian : Obligations.StoredValueIsLittleEndian := by
  intro m as v hm hnodup hlen
  refine ⟨m.writeLE_wf hm as v, fun a ha => m.read_writeLE_of_notMem v ha,
    fun k a ha => Memory.read_writeLE_getElem? hm hnodup v ha, ?loaded, m.toNat_readLE hlen⟩
  case loaded => rw [Memory.toNat_readLE _ hlen, byteSum_writeLE hm hnodup]

/-! ## Launch images -/

theorem Memory.read_place_of_notMem (m : Memory) (size a x : Nat) (bs : List Byte)
    (hx : ∀ k < bs.length, x ≠ (a + k) % size) : (m.place size a bs).read x = m.read x := by
  induction bs generalizing m a with
  | nil => rfl
  | cons b bs ih =>
    have hhead : x ≠ a % size := hx 0 (by simp)
    have htail : ∀ k < bs.length, x ≠ (a + 1 + k) % size := by
      intro k hk
      have h := hx (k + 1) (by simpa using hk)
      rwa [← Nat.add_assoc, Nat.add_right_comm] at h
    rw [Memory.place, ih _ (a + 1) htail, Memory.read_write_ne _ _ hhead]

/-- A piece inside the address space is placed byte by byte. -/
theorem Memory.read_place {m : Memory} (hm : m.wf = true) {size a k : Nat} {bs : List Byte} {b : Byte}
    (hroom : ∀ j < bs.length, a + j < size) (hb : bs[k]? = some b) :
    (m.place size a bs).read (a + k) = b := by
  induction bs generalizing m a k with
  | nil => simp at hb
  | cons c bs ih =>
    have htail : ∀ j < bs.length, a + 1 + j < size := by
      intro j hj
      have h := hroom (j + 1) (by simpa using hj)
      omega
    have hhead : a % size = a := Nat.mod_eq_of_lt (by simpa using hroom 0 (by simp))
    rw [Memory.place, hhead]
    cases k with
    | zero =>
      obtain rfl : c = b := by simpa using hb
      rw [Memory.read_place_of_notMem, Nat.add_zero, Memory.read_write_self hm]
      intro j hj
      rw [Nat.mod_eq_of_lt (htail j hj)]
      omega
    | succ k =>
      rw [← Nat.add_assoc, Nat.add_right_comm]
      exact ih (m.write_wf hm a c) htail (by simpa using hb)

/-- The addresses of a piece of launch image. -/
def pieceAddrs (p : Nat × List Byte) : List Nat := (List.range p.2.length).map (p.1 + ·)

theorem mem_pieceAddrs {p : Nat × List Byte} {a : Nat} :
    a ∈ pieceAddrs p ↔ ∃ k < p.2.length, p.1 + k = a := by
  simp [pieceAddrs]

/-- Placing pieces one after the other. -/
def Memory.placeAll (m : Memory) (size : Nat) (ps : List (Nat × List Byte)) : Memory :=
  ps.foldl (fun m p => m.place size p.1 p.2) m

theorem Memory.read_placeAll_of_notMem (m : Memory) {size x : Nat} {ps : List (Nat × List Byte)}
    (hroom : ∀ a ∈ ps.flatMap pieceAddrs, a < size) (hx : x ∉ ps.flatMap pieceAddrs) :
    (m.placeAll size ps).read x = m.read x := by
  induction ps generalizing m with
  | nil => rfl
  | cons p ps ih =>
    simp only [List.flatMap_cons, List.mem_append, not_or] at hroom hx
    obtain ⟨hp, hps⟩ := hx
    rw [Memory.placeAll, List.foldl_cons]
    refine (ih _ (fun a ha => hroom a (.inr ha)) hps).trans (Memory.read_place_of_notMem m size p.1 x p.2 ?_)
    intro k hk heq
    have hmem : p.1 + k ∈ pieceAddrs p := mem_pieceAddrs.2 ⟨k, hk, rfl⟩
    rw [Nat.mod_eq_of_lt (hroom _ (.inl hmem))] at heq
    exact hp (heq ▸ hmem)

theorem Memory.read_placeAll {m : Memory} (hm : m.wf = true) {size : Nat} {ps : List (Nat × List Byte)}
    (hnodup : (ps.flatMap pieceAddrs).Nodup) (hroom : ∀ a ∈ ps.flatMap pieceAddrs, a < size)
    {p : Nat × List Byte} (hp : p ∈ ps) {k : Nat} {b : Byte} (hb : p.2[k]? = some b) :
    (m.placeAll size ps).read (p.1 + k) = b := by
  induction ps generalizing m with
  | nil => simp at hp
  | cons q ps ih =>
    simp only [List.flatMap_cons, List.mem_append] at hroom
    obtain ⟨-, hrest, hdisj⟩ := List.nodup_append.1 (List.flatMap_cons ▸ hnodup)
    have hrestRoom : ∀ a ∈ ps.flatMap pieceAddrs, a < size := fun a ha => hroom a (.inr ha)
    rw [Memory.placeAll, List.foldl_cons]
    obtain rfl | hp := List.mem_cons.1 hp
    · have hmem : p.1 + k ∈ pieceAddrs p :=
        mem_pieceAddrs.2 ⟨k, (List.getElem?_eq_some_iff.1 hb).1, rfl⟩
      refine (Memory.read_placeAll_of_notMem _ hrestRoom fun h => hdisj _ hmem _ h rfl).trans ?_
      exact Memory.read_place hm (fun j hj => hroom _ (.inl (mem_pieceAddrs.2 ⟨j, hj, rfl⟩))) hb
    · exact ih (Memory.place_wf hm _ _ _) hrest hrestRoom hp

/-- Settles O32: the memory of reset is the drawn byte everywhere, with the pieces placed over it. -/
theorem resetImage : Obligations.ResetImage := by
  intro c l addrs hnodup hroom
  exact ⟨fun p hp k b hb => Memory.read_placeAll rfl hnodup hroom hp hb,
    fun a ha => Memory.read_placeAll_of_notMem _ hroom ha⟩

end Sys2Proof.Machine
end


section
/-! What a step can do, said once: every step that goes on is one of a few effects, and each of the
invariants of the model is read off the effects (`spec/00_scope.md` R6, `spec/10_state.md` R30 to R49,
`spec/20_memory.md` R87, `spec/60_exceptions.md` R477 to R482). -/

namespace Sys2Proof.Machine

/-! ## Addresses of `XLEN` bits, and their alignment -/

/-- Clearing the low `k` bits. -/
theorem toNat_and_not_low (v : Word) (k : Nat) (hk : k ≤ 64) :
    (v &&& ~~~(BitVec.ofNat 64 (2 ^ k - 1))).toNat = v.toNat / 2 ^ k * 2 ^ k := by
  apply Nat.eq_of_testBit_eq
  intro i
  rw [Nat.testBit_mul_two_pow, Nat.testBit_div_two_pow, BitVec.testBit_toNat, BitVec.testBit_toNat]
  rw [BitVec.getLsbD_and, BitVec.getLsbD_not, BitVec.getLsbD_ofNat, Nat.testBit_two_pow_sub_one]
  by_cases hi : i < 64
  · by_cases hki : k ≤ i
    · simp [hi, hki, Nat.sub_add_cancel hki, Nat.not_lt.2 hki]
    · simp [hi, hki, Nat.lt_of_not_le hki]
  · have hki : k ≤ i := by omega
    simp [hki, Nat.sub_add_cancel hki, BitVec.getLsbD_of_ge v i (by omega)]

theorem toNat_and_not_three (v : Word) : (v &&& ~~~3#64).toNat = v.toNat / 4 * 4 :=
  toNat_and_not_low v 2 (by decide)

theorem toNat_and_not_one (v : Word) : (v &&& ~~~1#64).toNat = v.toNat / 2 * 2 :=
  toNat_and_not_low v 1 (by decide)

theorem Isa.toNat_alignPc (i : Isa) (v : Word) :
    (i.alignPc v).toNat = v.toNat / i.ialignBytes * i.ialignBytes := by
  cases hC : i.hasC
  · simpa [Isa.alignPc, Isa.ialignBytes, hC] using toNat_and_not_three v
  · simpa [Isa.alignPc, Isa.ialignBytes, hC] using toNat_and_not_one v

theorem Isa.pcAligned_iff {i : Isa} {v : Word} : i.pcAligned v = true ↔ v.toNat % i.ialignBytes = 0 := by
  simp [Isa.pcAligned]

theorem Isa.ialignBytes_eq (i : Isa) : i.ialignBytes = 2 ∨ i.ialignBytes = 4 := by
  cases hC : i.hasC <;> simp [Isa.ialignBytes, hC]

theorem Isa.ialignBytes_dvd_four (i : Isa) : i.ialignBytes ∣ 4 := by
  obtain h | h := Isa.ialignBytes_eq i <;> simp [h]

theorem Isa.ialignBytes_of_hasC {i : Isa} (hC : i.hasC = true) : i.ialignBytes = 2 := by
  simp [Isa.ialignBytes, hC]

theorem Xlen.four_dvd_two_pow_bits (x : Xlen) : 4 ∣ 2 ^ x.bits := by
  cases x <;> decide

theorem Xlen.two_pow_bits_pos (x : Xlen) : 0 < 2 ^ x.bits := Nat.two_pow_pos _

theorem Isa.ialignBytes_dvd_two_pow_bits (i : Isa) (x : Xlen) : i.ialignBytes ∣ 2 ^ x.bits :=
  Nat.dvd_trans (Isa.ialignBytes_dvd_four i) (Xlen.four_dvd_two_pow_bits x)

theorem Xlen.narrow_eq_self_iff {x : Xlen} {v : Word} : x.narrow v = v ↔ v.toNat < 2 ^ x.bits := by
  constructor
  · intro h
    rw [← h, Xlen.toNat_narrow]
    exact Nat.mod_lt _ (Xlen.two_pow_bits_pos x)
  · intro h
    apply BitVec.eq_of_toNat_eq
    rw [Xlen.toNat_narrow, Nat.mod_eq_of_lt h]

theorem Isa.alignPc_eq_self_of_aligned {i : Isa} {v : Word} (hv : i.pcAligned v = true) :
    i.alignPc v = v := by
  apply BitVec.eq_of_toNat_eq
  rw [Isa.toNat_alignPc, Nat.div_mul_cancel (Nat.dvd_of_mod_eq_zero (Isa.pcAligned_iff.1 hv))]

/-- Rounding down keeps a value below the bound. -/
theorem Xlen.narrow_eq_self_of_le {x : Xlen} {v w : Word} (hv : x.narrow v = v)
    (hle : w.toNat ≤ v.toNat) : x.narrow w = w :=
  Xlen.narrow_eq_self_iff.2 (Nat.lt_of_le_of_lt hle (Xlen.narrow_eq_self_iff.1 hv))

theorem Isa.narrow_alignPc_narrow (i : Isa) (x : Xlen) (v : Word) :
    x.narrow (i.alignPc (x.narrow v)) = i.alignPc (x.narrow v) := by
  refine Xlen.narrow_eq_self_of_le (Xlen.narrow_narrow x v) ?_
  rw [Isa.toNat_alignPc]
  exact Nat.div_mul_le_self _ _

theorem Xlen.narrow_and_not_three_narrow (x : Xlen) (v : Word) :
    x.narrow (x.narrow v &&& ~~~3#64) = x.narrow v &&& ~~~3#64 := by
  refine Xlen.narrow_eq_self_of_le (Xlen.narrow_narrow x v) ?_
  rw [toNat_and_not_three]
  exact Nat.div_mul_le_self _ _

/-- What an exception program counter is written with keeps its restriction. -/
theorem Isa.alignPc_narrow_alignPc_narrow (i : Isa) (x : Xlen) (v : Word) :
    i.alignPc (x.narrow (i.alignPc (x.narrow v))) = i.alignPc (x.narrow v) := by
  rw [Isa.narrow_alignPc_narrow, alignPc_alignPc]

/-- What `mtvec` is written with keeps its restriction. -/
theorem Xlen.and_not_three_narrow (x : Xlen) (v : Word) :
    x.narrow (x.narrow v &&& ~~~3#64) &&& ~~~3#64 = x.narrow v &&& ~~~3#64 := by
  rw [Xlen.narrow_and_not_three_narrow, BitVec.and_assoc, BitVec.and_self]

theorem Isa.pcAligned_narrow_alignPc (i : Isa) (x : Xlen) (v : Word) :
    i.pcAligned (x.narrow (i.alignPc v)) = true := by
  rw [Isa.pcAligned_iff, Xlen.toNat_narrow, Isa.toNat_alignPc,
    Nat.mod_mod_of_dvd _ (Isa.ialignBytes_dvd_two_pow_bits i x), Nat.mul_mod_left]

/-- An aligned address stays aligned when a whole number of parcels is added. -/
theorem Isa.pcAligned_narrow_add {i : Isa} (x : Xlen) {v : Word} {n : Nat} (hv : i.pcAligned v = true)
    (hn : n % i.ialignBytes = 0) : i.pcAligned (x.narrow (v + BitVec.ofNat 64 n)) = true := by
  have hia : i.ialignBytes ∣ 2 ^ 64 :=
    Nat.dvd_trans (Isa.ialignBytes_dvd_four i) (by decide)
  rw [Isa.pcAligned_iff] at *
  rw [Xlen.toNat_narrow, Nat.mod_mod_of_dvd _ (Isa.ialignBytes_dvd_two_pow_bits i x), BitVec.toNat_add,
    Nat.mod_mod_of_dvd _ hia, BitVec.toNat_ofNat, Nat.add_mod, Nat.mod_mod_of_dvd _ hia, hv, hn]
  rfl

/-! ## Registers of the two files -/

theorem State.writeX_of_ne {r : Reg} (s : State) (v : Word) (hr : r ≠ 0#5) :
    s.writeX r v = { s with x := regSet s.x r (s.xlen.narrow v) } := by
  simp [State.writeX, hr]

theorem State.readX_writeX_self (s : State) {r : Reg} (v : Word) (hr : r ≠ 0#5) :
    (s.writeX r v).readX r = s.xlen.narrow v := by
  simp [State.readX, State.writeX_of_ne s v hr, hr]

theorem State.readF_writeF_self (s : State) (r : Reg) (v : Word) :
    (s.writeF r v).readF r = flenNarrow s.cfg.isa v :=
  regGet_regSet_self s.f r _

theorem State.readF_writeF_ne (s : State) {r q : Reg} (v : Word) (hq : q ≠ r) :
    (s.writeF r v).readF q = s.readF q :=
  regGet_regSet_ne s.f _ hq

/-- A state reached by writes to the two register files and to the flags. -/
inductive RegsWritten (s : State) : State → Prop where
  | refl : RegsWritten s s
  | writeX {u : State} (r : Reg) (v : Word) (hu : RegsWritten s u) : RegsWritten s (u.writeX r v)
  | writeF {u : State} (r : Reg) (v : Word) (hu : RegsWritten s u) : RegsWritten s (u.writeF r v)
  | raiseFlags {u : State} (fl : FlagSet) (hu : RegsWritten s u) : RegsWritten s (u.raiseFlags fl)

theorem RegsWritten.wrP {s u : State} (p : Prec) (r : Reg) (v : Nat) (hu : RegsWritten s u) :
    RegsWritten s (u.wrP p r v) := by
  cases p
  · exact .writeF r _ hu
  · exact .writeF r _ hu

theorem RegsWritten.hostSetAll {s u : State} (q : HostQuery) (i : Nat) (rs : List HostReg)
    (hu : RegsWritten s u) : RegsWritten s (u.hostSetAll q i rs) := by
  induction rs generalizing u i with
  | nil => exact hu
  | cons r rs ih =>
    refine ih (i + 1) ?_
    cases r with
    | x r => exact .writeX r _ hu
    | f r => exact .writeF r _ hu

/-! ## Effects -/

/-- What a step that goes on can do; `csr` says whether it runs a CSR instruction. -/
inductive Effect (s : State) (csr : Bool) : State → Prop where
  /-- An exception, perhaps after some bytes of a split store. -/
  | raised (as : List Nat) (v : Word) (n : Nat) (e : Exc) (info : Word) :
    Effect s csr ({ s.storeBytes as v with draws := n }.raise e info)
  /-- The model fault of fetching. -/
  | stopped (why : StopReason) (info : Word) : Effect s csr (s.stop why info)
  | advanced {u : State} (ilen : Nat) (hu : RegsWritten s u) (hlen : ilen % s.cfg.isa.ialignBytes = 0) :
    Effect s csr (u.advance ilen)
  | jumped {u : State} (target : Word) (hu : RegsWritten s u)
    (htarget : s.cfg.isa.pcAligned (s.xlen.narrow target) = true) : Effect s csr (u.setPc target)
  | stored (as : List Nat) (v : Word) (ilen : Nat) (hlen : ilen % s.cfg.isa.ialignBytes = 0) :
    Effect s csr ((s.storeBytes as v).advance ilen)
  | csrWritten {u : State} (n : BitVec 12) (v : Word) (hcsr : csr = true)
    (hmode : s.priv.below (csrMode n) = false) (hu : RegsWritten (s.writeCsr n v) u) :
    Effect s csr (u.advance 4)
  | served (why : StopReason) (info : Word) (h : HostService) : Effect s csr ((s.stop why info).hostServe h)
  | popped (hlayer : s.cfg.trapLayer = .mmode) (hM : s.priv = .m) :
    Effect s csr ((s.returnTo s.mepc).popStatus)

section
variable {s : State} {csr : Bool}

theorem Effect.raise (e : Exc) (info : Word) : Effect s csr (s.raise e info) :=
  .raised [] 0#64 s.draws e info

theorem four_mod_ialignBytes (i : Isa) : 4 % i.ialignBytes = 0 :=
  Nat.mod_eq_zero_of_dvd (Isa.ialignBytes_dvd_four i)

/-- A step of a 32-bit instruction that only writes registers. -/
theorem Effect.advanced4 {u : State} (hu : RegsWritten s u) : Effect s csr (u.advance 4) :=
  .advanced 4 hu (four_mod_ialignBytes s.cfg.isa)

/-! ### Guards -/

theorem Effect.listed {i : Instr} {k : State → State}
    (hk : i.wf s.cfg.isa = true → Effect s csr (k s)) : Effect s csr (s.listed i k) := by
  obtain ⟨hwf, hrun⟩ | ⟨-, hraise⟩ := s.listed_cases i k
  · rw [hrun]
    exact hk hwf
  · rw [hraise]
    exact .raise _ _

/-- A 16-bit instruction runs on a machine with `C`, where instructions are multiples of two bytes. -/
theorem Effect.listedHalf {i : Instr} {h : BitVec 16} (henc : encode i = .half h) {k : State → State}
    (hk : 2 % s.cfg.isa.ialignBytes = 0 → Effect s csr (k s)) : Effect s csr (s.listed i k) :=
  .listed fun hwf => hk (by rw [Isa.ialignBytes_of_hasC (hasC_of_encode_half henc hwf)])

theorem Effect.withRm {i : Instr} {rm : RmField} {k : RoundMode → State}
    (hk : ∀ mode, Effect s csr (k mode)) : Effect s csr (s.withRm i rm k) := by
  obtain ⟨mode, -, hrun⟩ | ⟨-, hraise⟩ := s.withRm_cases i rm k
  · rw [hrun]
    exact hk mode
  · rw [hraise]
    exact .raise _ _

theorem Effect.ite {c : Prop} [Decidable c] {t u : State} (ht : Effect s csr t) (hu : Effect s csr u) :
    Effect s csr (if c then t else u) := by
  split
  next => exact ht
  next => exact hu

/-! ### The shapes of the meanings -/

theorem Effect.setRd {rd : Reg} {v : Word} {ilen : Nat} (hlen : ilen % s.cfg.isa.ialignBytes = 0) :
    Effect s csr (s.setRd rd v ilen) :=
  .advanced ilen (.writeX rd v .refl) hlen

theorem Effect.setRd4 {rd : Reg} {v : Word} : Effect s csr (s.setRd rd v 4) :=
  .setRd (four_mod_ialignBytes s.cfg.isa)

theorem Effect.fpToX {rd : Reg} {v : Word} {fl : FlagSet} : Effect s csr (s.fpToX rd v fl) :=
  .advanced4 (.raiseFlags fl (.writeX rd v .refl))

theorem Effect.fpResult {p : Prec} {fd : Reg} {res : Nat × FlagSet} :
    Effect s csr (s.fpResult p fd res) :=
  .advanced4 (.raiseFlags res.2 (.wrP p fd res.1 .refl))

theorem Effect.transfer {target : Word} {k : State → State} (hk : RegsWritten s (k s)) :
    Effect s csr (s.transfer target k) := by
  obtain ⟨haligned, hgoes⟩ | ⟨-, hraise⟩ := s.transfer_cases target k
  · rw [hgoes]
    exact .jumped target hk haligned
  · rw [hraise]
    exact .raise _ _

theorem Effect.jumpLink {rd : Reg} {target : Word} {ilen : Nat} :
    Effect s csr (s.jumpLink rd target ilen) :=
  .transfer (.writeX rd _ .refl)

theorem Effect.branch {taken : Bool} {target : Word} {ilen : Nat}
    (hlen : ilen % s.cfg.isa.ialignBytes = 0) : Effect s csr (s.branch taken target ilen) := by
  obtain ⟨-, htaken⟩ | ⟨-, hnot⟩ := s.branch_cases taken target ilen
  · rw [htaken]
    exact .transfer .refl
  · rw [hnot]
    exact .advanced ilen .refl hlen

theorem Effect.returnTo (epc : Word) : Effect s csr (s.returnTo epc) :=
  .jumped _ .refl (Isa.pcAligned_narrow_alignPc s.cfg.isa s.xlen epc)

theorem Effect.load {ea : Word} {n : Nat} {k : Word → State} (hk : ∀ v, Effect s csr (k v)) :
    Effect s csr (s.load ea n k) := by
  obtain ⟨e, -, hraise⟩ | ⟨-, hread⟩ := s.load_cases ea n k
  · rw [hraise]
    exact .raise _ _
  · rw [hread]
    exact hk _

theorem Effect.store {ea : Word} {n : Nat} {v : Word} {ilen : Nat}
    (hlen : ilen % s.cfg.isa.ialignBytes = 0) : Effect s csr (s.store ea n v ilen) := by
  obtain ⟨e, -, hraise⟩ | ⟨-, hwrites⟩ := s.store_cases ea n v ilen
  · rw [hraise]
    obtain ⟨-, hnone⟩ | ⟨-, -, k, hsome⟩ := s.storePart_cases ea n v
    · rw [hnone]
      exact .raise _ _
    · rw [hsome]
      exact .raised _ _ _ _ _
  · rw [hwrites]
    exact .stored _ _ _ hlen

theorem Effect.csrAccess {i : Instr} {rd : Reg} {n : BitVec 12} {writes : Bool} {new : Word → Word}
    (hcsr : csr = true) : Effect s csr (s.csrAccess i rd n writes new) := by
  obtain ⟨hallowed, haccess⟩ | ⟨-, hraise⟩ := s.csrAccess_cases i rd n writes new
  · simp only [State.csrAllowed, Bool.and_eq_true, Bool.not_eq_true'] at hallowed
    obtain ⟨⟨-, hmode⟩, -⟩ := hallowed
    rw [haccess]
    split
    next => exact .csrWritten n _ hcsr hmode (.writeX rd _ .refl)
    next => exact .advanced4 (.writeX rd _ .refl)
  · rw [hraise]
    exact .raise _ _

theorem Effect.environmentCall : Effect s csr s.environmentCall := by
  obtain hraise | ⟨h, hlayer, -, -, hserve⟩ := s.environmentCall_cases
  · rw [hraise]
    exact .raise _ _
  · rw [hserve, State.raise_of_fault _ _ hlayer]
    exact .served _ _ h

theorem Effect.machineReturn (hM : s.priv = .m) : Effect s csr s.machineReturn := by
  cases hlayer : s.cfg.trapLayer with
  | fault =>
    rw [State.machineReturn_of_fault hlayer]
    exact .returnTo _
  | mmode =>
    rw [State.machineReturn_of_mmode hlayer]
    exact .popped hlayer hM

end

/-! ### Instructions and steps -/

theorem exec_mret_effect (s : State) (csr : Bool) : ∃ t, exec .mret s = .next t ∧ Effect s csr t := by
  obtain hillegal | ⟨hM, hreturn⟩ := exec_mret_cases s
  · exact ⟨_, hillegal, .raise _ _⟩
  · exact ⟨_, hreturn, .machineReturn hM⟩

/-- Every instruction has an effect, by the shape that its meaning has. -/
theorem exec_effect (s : State) (i : Instr) :
    ∃ t, exec i s = .next t ∧ Effect s (isCsrInstr i) t := by
  have h4 := four_mod_ialignBytes s.cfg.isa
  cases i
  case mret => exact exec_mret_effect s _
  case addi | slti | sltiu | xori | ori | andi | auipc | lui | add | sub | sll | slt | sltu | xor | srl
      | sra | or | and =>
    exact ⟨_, rfl, .setRd4⟩
  case slli | srli | srai | addiw | slliw | srliw | sraiw | addw | subw | sllw | srlw | sraw | mul
      | mulh | mulhsu | mulhu | div | divu | rem | remu | fmvXW =>
    exact ⟨_, rfl, .listed fun _ => .setRd4⟩
  case cAddi4spn | cAddi | cLi | cLui | cAddi16sp | cSrli | cSrai | cAndi | cSub | cXor | cOr | cAnd
      | cSlli | cMv | cAdd =>
    exact ⟨_, rfl, .listedHalf rfl .setRd⟩
  case lb | lh | lw | lbu | lhu =>
    exact ⟨_, rfl, .load fun _ => .setRd4⟩
  case ld | lwu =>
    exact ⟨_, rfl, .listed fun _ => .load fun _ => .setRd4⟩
  case cLw | cLwsp =>
    exact ⟨_, rfl, .listedHalf rfl fun h2 => .load fun _ => .setRd h2⟩
  case flw | fld =>
    exact ⟨_, rfl, .listed fun _ => .load fun _ => .advanced4 (.writeF _ _ .refl)⟩
  case cFlw | cFld | cFlwsp | cFldsp =>
    exact ⟨_, rfl, .listedHalf rfl fun h2 => .load fun _ => .advanced 2 (.writeF _ _ .refl) h2⟩
  case sb | sh | sw =>
    exact ⟨_, rfl, .store h4⟩
  case sd | fsw | fsd =>
    exact ⟨_, rfl, .listed fun _ => .store h4⟩
  case cSw | cFsw | cFsd | cSwsp | cFswsp | cFsdsp =>
    exact ⟨_, rfl, .listedHalf rfl .store⟩
  case beq | bne | blt | bge | bltu | bgeu =>
    exact ⟨_, rfl, .branch h4⟩
  case cBeqz | cBnez =>
    exact ⟨_, rfl, .listedHalf rfl .branch⟩
  case jal | jalr =>
    exact ⟨_, rfl, .jumpLink⟩
  case cJal | cJalr =>
    exact ⟨_, rfl, .listed fun _ => .jumpLink⟩
  case cJ | cJr =>
    exact ⟨_, rfl, .listed fun _ => .transfer .refl⟩
  case fmaddS | fmaddD | fmsubS | fmsubD | fnmsubS | fnmsubD | fnmaddS | fnmaddD | faddS | faddD | fsubS
      | fsubD | fmulS | fmulD | fdivS | fdivD | fsqrtS | fsqrtD | fcvtSW | fcvtSWu | fcvtDW | fcvtDWu
      | fcvtSD | fcvtDS =>
    exact ⟨_, rfl, .listed fun _ => .withRm fun _ => .fpResult⟩
  case fcvtWS | fcvtWuS | fcvtWD | fcvtWuD =>
    exact ⟨_, rfl, .listed fun _ => .withRm fun _ => .fpToX⟩
  case fsgnjS | fsgnjD | fsgnjnS | fsgnjnD | fsgnjxS | fsgnjxD | fminS | fminD | fmaxS | fmaxD =>
    exact ⟨_, rfl, .listed fun _ => .fpResult⟩
  case feqS | feqD | fltS | fltD | fleS | fleD | fclassS | fclassD =>
    exact ⟨_, rfl, .listed fun _ => .fpToX⟩
  case fmvWX =>
    exact ⟨_, rfl, .listed fun _ => .advanced4 (.writeF _ _ .refl)⟩
  case cNop =>
    exact ⟨_, rfl, .listedHalf rfl (.advanced 2 .refl)⟩
  case ebreak | cEbreak =>
    exact ⟨_, rfl, .listed fun _ => .raise _ _⟩
  case ecall =>
    exact ⟨_, rfl, .listed fun _ => .environmentCall⟩
  case uret =>
    exact ⟨_, rfl, .listed fun _ => .ite (.returnTo _) (.raise _ _)⟩
  case sret =>
    exact ⟨_, rfl, .listed fun _ => .ite (.raise _ _) (.returnTo _)⟩
  case crrw | crrs | crrc | crrwi | crrsi | crrci =>
    exact ⟨_, rfl, .listed fun _ => .csrAccess rfl⟩

/-- Every step that goes on has an effect; only a CSR instruction has that of writing a CSR. -/
theorem step_effect {s t : State} (hstep : step s = .next t) :
    Effect s false t ∨ ∃ i, s.fetchDecode = .run i ∧ isCsrInstr i = true ∧ Effect s true t := by
  obtain ⟨-, hdone | ⟨i, hrun, hexec⟩⟩ := step_next_cases hstep
  · left
    obtain rfl | rfl | ⟨x, rfl⟩ := State.fetchDecode_done hdone
    · exact .raise _ _
    · exact .stopped _ _
    · exact .raise _ _
  · obtain ⟨u, hu, heffect⟩ := exec_effect s i
    rw [hu] at hexec
    cases hexec
    cases hi : isCsrInstr i with
    | false => exact .inl (hi ▸ heffect)
    | true => exact .inr ⟨i, hrun, hi, hi ▸ heffect⟩

/-- The effect of a step, whichever instruction it runs. -/
theorem exists_effect_of_step {s t : State} (hstep : step s = .next t) : ∃ csr, Effect s csr t := by
  obtain h | ⟨-, -, -, h⟩ := step_effect hstep
  · exact ⟨false, h⟩
  · exact ⟨true, h⟩

end Sys2Proof.Machine
end


section
/-! The invariants of the model, each read off the effects of a step. -/

namespace Sys2Proof.Machine

/-! ## Parameters (`spec/00_scope.md` R6) -/

theorem RegsWritten.cfg {s u : State} (hu : RegsWritten s u) : u.cfg = s.cfg := by
  induction hu with
  | refl => rfl
  | writeX r v _ ih => rw [State.writeX_cfg, ih]
  | writeF r v _ ih => exact ih
  | raiseFlags fl _ ih => exact ih

theorem State.hostServe_cfg (s : State) (h : HostService) : (s.hostServe h).cfg = s.cfg := by
  have heffect : (s.hostEffect h).cfg = s.cfg := by rw [State.hostEffect_fields]
  obtain ⟨-, hserve⟩ | ⟨-, hserve⟩ := s.hostServe_cases h <;> rw [hserve] <;> exact heffect

theorem Effect.cfg {s t : State} {csr : Bool} (h : Effect s csr t) : t.cfg = s.cfg := by
  cases h with
  | raised as v n e info => exact State.raise_cfg _ e info
  | stopped why info => rfl
  | advanced ilen hu hlen => exact hu.cfg
  | jumped target hu htarget => exact hu.cfg
  | stored as v ilen hlen => rfl
  | csrWritten n v hcsr hmode hu => exact hu.cfg.trans (State.writeCsr_cfg s n v)
  | served why info h => exact State.hostServe_cfg _ h
  | popped hlayer hM => rfl

/-- Settles O28: every effect keeps the parameters, and `x0` reads as zero in any state. -/
theorem stepKeepsParameters : Obligations.StepKeepsParameters := by
  intro s t hstep
  obtain ⟨csr, heffect⟩ := exists_effect_of_step hstep
  exact ⟨heffect.cfg, t.readX_zero⟩

/-! ## The record of modified bytes (`spec/20_memory.md` R87) -/

/-- A byte that differs is recorded, and the record keeps its addresses. -/
def ChangesRecorded (s t : State) : Prop :=
  (∀ a, t.mem.read a ≠ s.mem.read a → a ∈ t.modified) ∧ (∀ a ∈ s.modified, a ∈ t.modified)

theorem ChangesRecorded.of_eq {s t : State} (hmem : t.mem = s.mem) (hmod : t.modified = s.modified) :
    ChangesRecorded s t :=
  ⟨fun _ hne => absurd (by rw [hmem]) hne, fun _ ha => hmod ▸ ha⟩

theorem ChangesRecorded.storeBytes (s : State) (as : List Nat) (v : Word) :
    ChangesRecorded s (s.storeBytes as v) := by
  refine ⟨fun a hne => mem_addAddrs.2 (.inr ?_), fun a ha => mem_addAddrs.2 (.inl ha)⟩
  refine Decidable.byContradiction fun hnot => ?_
  exact hne (s.mem.read_writeLE_of_notMem v hnot)

theorem RegsWritten.mem_eq {s u : State} (hu : RegsWritten s u) :
    u.mem = s.mem ∧ u.modified = s.modified := by
  induction hu with
  | refl => exact ⟨rfl, rfl⟩
  | writeX r v _ ih => rwa [State.writeX_mem, State.writeX_modified]
  | writeF r v _ ih => exact ih
  | raiseFlags fl _ ih => exact ih

theorem State.modified_hostPokeAll (s : State) (q : HostQuery) (i : Nat) (as : List Nat) (a : Nat) :
    a ∈ (s.hostPokeAll q i as).modified ↔ a ∈ s.modified ∨ a ∈ as := by
  induction as generalizing s i with
  | nil => simp [State.hostPokeAll]
  | cons b as ih =>
    rw [State.hostPokeAll, ih, State.hostPoke, mem_addAddr, List.mem_cons]
    rw [or_comm (a := a = b), or_assoc]

theorem State.read_hostPokeAll_of_notMem (s : State) (q : HostQuery) (i : Nat) {as : List Nat} {a : Nat}
    (ha : a ∉ as) : (s.hostPokeAll q i as).mem.read a = s.mem.read a := by
  induction as generalizing s i with
  | nil => rfl
  | cons b as ih =>
    obtain ⟨hne, htail⟩ := not_or.1 (mt List.mem_cons.2 ha)
    rw [State.hostPokeAll, ih _ _ htail]
    exact s.mem.read_write_ne _ hne

theorem State.hostSetAll_regsWritten (s : State) (q : HostQuery) (i : Nat) (rs : List HostReg) :
    RegsWritten s (s.hostSetAll q i rs) :=
  .hostSetAll q i rs .refl

theorem State.modified_hostEffect (s : State) (h : HostService) (a : Nat) :
    a ∈ (s.hostEffect h).modified ↔ a ∈ s.modified ∨ a ∈ s.hostWrites h := by
  obtain ⟨-, hmod⟩ := (s.hostSetAll_regsWritten (s.hostQuery h) 0 h.regsWritten).mem_eq
  exact (State.modified_hostPokeAll _ _ _ _ a).trans (by rw [hmod])

theorem State.read_hostEffect_of_notMem (s : State) (h : HostService) {a : Nat} (ha : a ∉ s.hostWrites h) :
    (s.hostEffect h).mem.read a = s.mem.read a := by
  obtain ⟨hmem, -⟩ := (s.hostSetAll_regsWritten (s.hostQuery h) 0 h.regsWritten).mem_eq
  exact (State.read_hostPokeAll_of_notMem _ _ _ ha).trans (by rw [hmem])

theorem ChangesRecorded.hostServe (s : State) (h : HostService) : ChangesRecorded s (s.hostServe h) := by
  have heffect : ChangesRecorded s (s.hostEffect h) := by
    refine ⟨fun a hne => (s.modified_hostEffect h a).2 (.inr ?_),
      fun a ha => (s.modified_hostEffect h a).2 (.inl ha)⟩
    refine Decidable.byContradiction fun hnot => ?_
    exact hne (s.read_hostEffect_of_notMem h hnot)
  obtain ⟨-, hserve⟩ | ⟨-, hserve⟩ := s.hostServe_cases h <;> rw [hserve] <;> exact heffect

theorem Effect.changesRecorded {s t : State} {csr : Bool} (h : Effect s csr t) : ChangesRecorded s t := by
  cases h with
  | raised as v n e info =>
    rw [ChangesRecorded, State.raise_mem, State.raise_modified]
    exact ChangesRecorded.storeBytes s as v
  | stopped why info => exact .of_eq rfl rfl
  | advanced ilen hu hlen => exact .of_eq hu.mem_eq.1 hu.mem_eq.2
  | jumped target hu htarget => exact .of_eq hu.mem_eq.1 hu.mem_eq.2
  | stored as v ilen hlen => exact ChangesRecorded.storeBytes s as v
  | csrWritten n v hcsr hmode hu =>
    obtain ⟨hmem, hmod⟩ := hu.mem_eq
    exact .of_eq (hmem.trans (State.writeCsr_mem s n v)) (hmod.trans (State.writeCsr_modified s n v))
  | served why info h => exact ChangesRecorded.hostServe (s.stop why info) h
  | popped hlayer hM => exact .of_eq rfl rfl

/-- Settles O29: only stores and services of the host change memory, and both record what they write. -/
theorem changedBytesAreRecorded : Obligations.ChangedBytesAreRecorded := by
  intro s t hstep
  obtain ⟨csr, heffect⟩ := exists_effect_of_step hstep
  exact heffect.changesRecorded

/-! ## Control and status registers (`spec/10_state.md` R41 to R45) -/

/-- The control and status registers but `fflags`, and the mode, are as they were. -/
structure ControlKept (s t : State) : Prop where
  frm : t.frm = s.frm
  uepc : t.uepc = s.uepc
  sepc : t.sepc = s.sepc
  mepc : t.mepc = s.mepc
  mie : t.mie = s.mie
  mpie : t.mpie = s.mpie
  mpp : t.mpp = s.mpp
  mtvec : t.mtvec = s.mtvec
  mscratch : t.mscratch = s.mscratch
  mcause : t.mcause = s.mcause
  mtval : t.mtval = s.mtval
  extra : t.extra = s.extra
  priv : t.priv = s.priv

/-- What a trap leaves as it is: the registers that its entry does not write. -/
structure TrapKept (s t : State) : Prop where
  frm : t.frm = s.frm
  uepc : t.uepc = s.uepc
  sepc : t.sepc = s.sepc
  mtvec : t.mtvec = s.mtvec
  mscratch : t.mscratch = s.mscratch
  extra : t.extra = s.extra

theorem ControlKept.trapKept {s t : State} (h : ControlKept s t) : TrapKept s t :=
  ⟨h.frm, h.uepc, h.sepc, h.mtvec, h.mscratch, h.extra⟩

theorem RegsWritten.controlKept {s u : State} (hu : RegsWritten s u) : ControlKept s u := by
  induction hu with
  | refl => constructor <;> rfl
  | writeX r v _ ih => obtain ⟨⟩ := ih; constructor <;> simpa
  | writeF r v _ ih => exact { ih with }
  | raiseFlags fl _ ih => exact { ih with }

theorem ControlKept.hostServe (s : State) (h : HostService) : ControlKept s (s.hostServe h) := by
  have heffect : ControlKept s (s.hostEffect h) := by
    rw [State.hostEffect_fields]
    constructor <;> rfl
  obtain ⟨-, hserve⟩ | ⟨-, hserve⟩ := s.hostServe_cases h <;> rw [hserve] <;> exact { heffect with }

/-- A raise stops the run, or enters mode M. -/
theorem controlKept_raise_or (s : State) (as : List Nat) (v : Word) (n : Nat) (e : Exc) (info : Word) :
    let t := { s.storeBytes as v with draws := n }.raise e info
    ControlKept s t ∨ (TrapKept s t ∧ t.priv = .m) := by
  intro t
  obtain ⟨-, hraise⟩ | ⟨-, hraise⟩ := State.raise_cases { s.storeBytes as v with draws := n } e info
  · left
    rw [show t = _ from hraise]
    constructor <;> rfl
  · right
    rw [show t = _ from hraise]
    exact ⟨by constructor <;> rfl, rfl⟩

/-- An effect keeps the control and status registers, enters M by a trap, returns from M, or is that of
a CSR instruction. -/
theorem Effect.control_cases {s t : State} {csr : Bool} (h : Effect s csr t) :
    ControlKept s t ∨ (TrapKept s t ∧ (t.priv = .m ∨ s.priv = .m)) ∨
    (csr = true ∧ ∃ n v, s.priv.below (csrMode n) = false ∧ ControlKept (s.writeCsr n v) t) := by
  cases h with
  | raised as v n e info =>
    obtain hkept | ⟨htrap, hM⟩ := controlKept_raise_or s as v n e info
    · exact .inl hkept
    · exact .inr (.inl ⟨htrap, .inl hM⟩)
  | stopped why info => exact .inl (by constructor <;> rfl)
  | advanced ilen hu hlen => exact .inl { hu.controlKept with }
  | jumped target hu htarget => exact .inl { hu.controlKept with }
  | stored as v ilen hlen => exact .inl (by constructor <;> rfl)
  | csrWritten n v hcsr hmode hu => exact .inr (.inr ⟨hcsr, n, v, hmode, { hu.controlKept with }⟩)
  | served why info h => exact .inl { ControlKept.hostServe (s.stop why info) h with }
  | popped hlayer hM => exact .inr (.inl ⟨by constructor <;> rfl, .inr hM⟩)

/-- Flags are only added. -/
theorem flags_kept_of_or {a b c : FlagSet} (h : a &&& b = a) : a &&& (b ||| c) = a := by
  ext k hk
  have hbit : (a &&& b)[k] = a[k] := by rw [h]
  simp only [BitVec.getElem_and, BitVec.getElem_or] at *
  cases hb : b[k] <;> simp_all

theorem RegsWritten.flags_kept {s u : State} (hu : RegsWritten s u) :
    s.fflags &&& u.fflags = s.fflags := by
  induction hu with
  | refl => exact BitVec.and_self
  | writeX r v _ ih => rwa [State.writeX_fflags]
  | writeF r v _ ih => exact ih
  | raiseFlags fl _ ih => exact flags_kept_of_or ih

theorem State.hostServe_fflags (s : State) (h : HostService) : (s.hostServe h).fflags = s.fflags := by
  have heffect : (s.hostEffect h).fflags = s.fflags := by rw [State.hostEffect_fields]
  obtain ⟨-, hserve⟩ | ⟨-, hserve⟩ := s.hostServe_cases h <;> rw [hserve] <;> exact heffect

theorem Effect.flags_kept {s t : State} (h : Effect s false t) : s.fflags &&& t.fflags = s.fflags := by
  cases h with
  | raised as v n e info => rw [State.raise_fflags]; exact BitVec.and_self
  | stopped why info => exact BitVec.and_self
  | advanced ilen hu hlen => exact hu.flags_kept
  | jumped target hu htarget => exact hu.flags_kept
  | stored as v ilen hlen => exact BitVec.and_self
  | csrWritten n v hcsr hmode hu => cases hcsr
  | served why info h => rw [State.hostServe_fflags]; exact BitVec.and_self
  | popped hlayer hM => exact BitVec.and_self

/-- Settles O30: of the effects only that of a CSR instruction writes these registers. -/
theorem onlyCsrInstructionsClearFlags : Obligations.OnlyCsrInstructionsClearFlags := by
  intro s t hstep
  obtain heffect | ⟨i, hrun, hcsr, -⟩ := step_effect hstep
  · right
    have hkept : TrapKept s t := by
      obtain hkept | ⟨htrap, -⟩ | ⟨hcsr, -⟩ := heffect.control_cases
      · exact hkept.trapKept
      · exact htrap
      · cases hcsr
    exact ⟨heffect.flags_kept, hkept.frm, hkept.uepc, hkept.sepc, hkept.mtvec, hkept.mscratch, hkept.extra⟩
  · exact .inl ⟨i, hrun, hcsr⟩

/-! ### Writes below mode M -/

/-- A write goes to a described register with the number, to a further one, or to none. -/
theorem State.writeCsr_cases (s : State) (n : BitVec 12) (v : Word) :
    (∃ c, csrNumber c = n ∧ s.writeCsr n v = s.writeNamed c v) ∨
    (∃ d, s.namedCsr n = none ∧ s.extraDesc n = some d ∧ s.writeCsr n v = s.writeExtra d n v) ∨
    s.writeCsr n v = s := by
  cases hnamed : s.namedCsr n with
  | some c =>
    have hnumber : csrNumber c = n := by simpa using List.find?_some hnamed
    exact .inl ⟨c, hnumber, by simp [State.writeCsr, hnamed]⟩
  | none =>
    cases hextra : s.extraDesc n with
    | some d => exact .inr (.inl ⟨d, rfl, rfl, by simp [State.writeCsr, hnamed, hextra]⟩)
    | none => exact .inr (.inr (by simp [State.writeCsr, hnamed, hextra]))

theorem lookupCsr_setCsr_self (d : Word) (n : BitVec 12) (v : Word) (cs : List ExtraCsr) :
    lookupCsr d n (setCsr n v cs) = v := by
  induction cs with
  | nil => simp [setCsr, lookupCsr]
  | cons c cs ih =>
    unfold setCsr
    split
    next => simp [lookupCsr]
    next hne => simp [lookupCsr, hne, ih]

theorem lookupCsr_setCsr_ne (d : Word) {n k : BitVec 12} (v : Word) (cs : List ExtraCsr) (hk : k ≠ n) :
    lookupCsr d k (setCsr n v cs) = lookupCsr d k cs := by
  induction cs with
  | nil => simp [setCsr, lookupCsr, hk.symm]
  | cons c cs ih =>
    unfold setCsr
    split
    next heq =>
      have hc : c.num ≠ k := fun h => hk (h.symm.trans heq)
      simp [lookupCsr, hk.symm, hc]
    next => simp [lookupCsr, ih]

/-- The modes of the two readings of bits 9:8 agree. -/
theorem modeAsked_eq (n : BitVec 12) : modeAsked n = (csrMode n).code.toNat := by
  have hfield : (n.extractLsb' 8 2).toNat = n.toNat / 256 % 4 := by
    simp [BitVec.extractLsb'_toNat, Nat.shiftRight_eq_div_pow]
  generalize hx : n.extractLsb' 8 2 = x at hfield
  rw [modeAsked, csrMode, hx, ← hfield]
  clear hx hfield
  revert x
  decide

theorem Priv.below_iff {p q : Priv} : p.below q = true ↔ p.code.toNat < q.code.toNat := by
  simp [Priv.below]

/-- The described registers that a write below mode M reaches are those of the user and the
supervisor. -/
theorem csrNumber_of_notBelow {p : Priv} {c : Csr} (hp : p ≠ .m)
    (hmode : p.below (csrMode (csrNumber c)) = false) :
    c = .fflags ∨ c = .frm ∨ c = .fcsr ∨ c = .uepc ∨ c = .sepc := by
  have hnotM : csrMode (csrNumber c) ≠ .m := by
    intro hM
    rw [hM, Priv.below_m_eq_false_iff] at hmode
    exact hp hmode
  cases c
  case fflags | frm | fcsr | uepc | sepc => simp
  all_goals exact absurd rfl hnotM

/-- The registers of mode M, and of any mode above that of `s`, are as they were. -/
structure HigherKept (s t : State) : Prop where
  mepc : t.mepc = s.mepc
  mie : t.mie = s.mie
  mpie : t.mpie = s.mpie
  mpp : t.mpp = s.mpp
  mtvec : t.mtvec = s.mtvec
  mscratch : t.mscratch = s.mscratch
  mcause : t.mcause = s.mcause
  mtval : t.mtval = s.mtval
  extra : ∀ n, s.priv.code.toNat < modeAsked n → t.extraVal n = s.extraVal n
  priv : t.priv = s.priv

theorem ControlKept.extraVal {s t : State} (h : ControlKept s t) (n : BitVec 12) :
    t.extraVal n = s.extraVal n := by
  rw [State.extraVal, State.extraVal, h.extra]

theorem HigherKept.writeCsr {s : State} {n : BitVec 12} (v : Word) (hp : s.priv ≠ .m)
    (hmode : s.priv.below (csrMode n) = false) : HigherKept s (s.writeCsr n v) := by
  obtain ⟨c, rfl, hwrite⟩ | ⟨d, -, -, hwrite⟩ | hwrite := s.writeCsr_cases n v <;> rw [hwrite]
  · obtain rfl | rfl | rfl | rfl | rfl := csrNumber_of_notBelow hp hmode
    all_goals constructor <;> intros <;> rfl
  · refine ⟨rfl, rfl, rfl, rfl, rfl, rfl, rfl, rfl, fun k hk => lookupCsr_setCsr_ne _ _ _ ?_, rfl⟩
    rintro rfl
    rw [modeAsked_eq, ← Priv.below_iff, hmode] at hk
    cases hk
  · constructor <;> intros <;> rfl

theorem HigherKept.trans_control {s u t : State} (hsu : HigherKept s u) (hut : ControlKept u t) :
    HigherKept s t :=
  ⟨hut.mepc.trans hsu.mepc, hut.mie.trans hsu.mie, hut.mpie.trans hsu.mpie, hut.mpp.trans hsu.mpp,
    hut.mtvec.trans hsu.mtvec, hut.mscratch.trans hsu.mscratch, hut.mcause.trans hsu.mcause,
    hut.mtval.trans hsu.mtval, fun n hn => (hut.extraVal n).trans (hsu.extra n hn),
    hut.priv.trans hsu.priv⟩

/-- Settles O20: below mode M an effect keeps all of these registers, or is a trap, which enters M. -/
theorem machineRegistersProtected : Obligations.MachineRegistersProtected := by
  intro s t hp hstep
  obtain ⟨csr, heffect⟩ := exists_effect_of_step hstep
  have hcases : HigherKept s t ∨ (TrapKept s t ∧ t.priv = .m) := by
    obtain hkept | ⟨htrap, hM | hM⟩ | ⟨-, n, v, hmode, hkept⟩ := heffect.control_cases
    · have hself : HigherKept s s := by constructor <;> intros <;> rfl
      exact .inl (hself.trans_control hkept)
    · exact .inr ⟨htrap, hM⟩
    · exact absurd hM hp
    · exact .inl ((HigherKept.writeCsr v hp hmode).trans_control hkept)
  obtain h | ⟨h, hM⟩ := hcases
  · exact ⟨h.mtvec, h.mscratch, h.extra, fun _ =>
      ⟨h.priv, h.mepc, h.mcause, h.mtval, h.mie, h.mpie, h.mpp⟩⟩
  · exact ⟨h.mtvec, h.mscratch, fun n _ => by rw [State.extraVal, State.extraVal, h.extra],
      fun hne => absurd hM hne⟩

end Sys2Proof.Machine
end


section
/-! Well-formed states: reset gives one, and every effect of a step keeps the invariant
(`spec/10_state.md` R30 to R46, `spec/60_exceptions.md` R478 to R480, `spec/70_reset_and_hazards.md`
R521). -/

namespace Sys2Proof.Machine

/-! ## Reset -/

section
variable (c : Config) (l : Launch)

theorem regGet_map (g : Word → Word) (v : Vector Word 32) (r : Reg) :
    regGet (v.map g) r = g (regGet v r) := by
  simp [regGet]

theorem resetWith_regGet_zero : regGet (State.resetWith c l).x 0#5 = 0#64 := by
  simp [regGet, State.resetWith]

theorem resetWith_regGet_of_ne {r : Reg} (hr : r ≠ 0#5) :
    regGet (State.resetWith c l).x r = c.xlen.narrow (regGet l.x r) := by
  have hne : 0 ≠ r.toNat := fun h => hr (BitVec.eq_of_toNat_eq h.symm)
  simp [regGet, State.resetWith, hne]

theorem resetWith_readX_of_ne {r : Reg} (hr : r ≠ 0#5) :
    (State.resetWith c l).readX r = c.xlen.narrow (regGet l.x r) := by
  rw [State.readX, if_neg hr, resetWith_regGet_of_ne c l hr]

theorem resetWith_readF (r : Reg) :
    (State.resetWith c l).readF r = flenNarrow c.isa (regGet l.f r) :=
  regGet_map _ l.f r

theorem resetWith_mstatus : (State.resetWith c l).mstatus = 0x1800#64 := by
  simp [State.mstatus, State.resetWith, Priv.code]

/-- Settles O27: every register of reset is cut to its width with its hard-wired bits cleared. -/
theorem resetWithOk : Obligations.ResetWithOk := by
  intro c l hwf
  simp only [Config.wf, Bool.and_eq_true, decide_eq_true_eq, beq_iff_eq] at hwf
  obtain ⟨hnarrow, haligned⟩ := hwf
  refine { mem := l.memory_wf _, modified := rfl, pcNarrow := Xlen.narrow_eq_self_iff.2 hnarrow,
           pcAligned := Isa.pcAligned_iff.2 haligned, x0 := resetWith_regGet_zero c l,
           xNarrow := ?_, fNarrow := ?_,
           uepc := Isa.alignPc_narrow_alignPc_narrow _ _ _,
           sepc := Isa.alignPc_narrow_alignPc_narrow _ _ _,
           mepc := Isa.alignPc_narrow_alignPc_narrow _ _ _,
           mtvec := Xlen.and_not_three_narrow _ _,
           mscratch := Xlen.narrow_narrow _ _, mcause := Xlen.narrow_narrow _ _,
           mtval := Xlen.narrow_narrow _ _, extra := ?_,
           priv := rfl, mpp := rfl, faultMode := fun _ => rfl }
  case refine_1 =>
    intro r
    by_cases hr : r = 0#5
    · rw [hr, resetWith_regGet_zero, Xlen.narrow_zero]
    · rw [resetWith_regGet_of_ne c l hr]
      exact Xlen.narrow_narrow _ _
  case refine_2 =>
    intro r
    exact (congrArg _ (resetWith_readF c l r)).trans
      ((flenNarrow_flenNarrow _ _).trans (resetWith_readF c l r).symm)
  case refine_3 =>
    intro e he
    obtain ⟨d, -, rfl⟩ := List.mem_map.1 he
    exact Xlen.narrow_narrow _ _

/-- Settles O26: the reference configuration is one of those of O27. -/
theorem resetOk : Obligations.ResetOk := resetWithOk _ _ rfl

/-- The further registers of reset are those described, by number. -/
theorem lookupCsr_map_of_find? {ds : List CsrDesc} {k : BitVec 12} {d : CsrDesc} (w : Word)
    (g : CsrDesc → Word) (hd : ds.find? (fun d => d.num == k) = some d) :
    lookupCsr w k (ds.map fun d => { num := d.num, val := g d }) = g d := by
  induction ds with
  | nil => simp at hd
  | cons e es ih =>
    rw [List.find?_cons] at hd
    rw [List.map_cons, lookupCsr]
    by_cases he : e.num = k
    · simp only [he, beq_self_eq_true, Option.some.injEq] at hd
      rw [if_pos he, hd]
    · rw [if_neg he]
      have hnum : (e.num == k) = false := by simpa using he
      exact ih (by simpa only [hnum] using hd)

theorem resetWith_extraVal {k : BitVec 12} {d : CsrDesc}
    (hd : (State.resetWith c l).extraDesc k = some d) :
    (State.resetWith c l).extraVal k =
      c.xlen.narrow (d.initial (lookupCsr l.extraFill k l.extra)) := by
  have hnum : d.num = k := by simpa using List.find?_some hd
  refine (lookupCsr_map_of_find? _ (fun d => c.xlen.narrow
    (d.initial (lookupCsr l.extraFill d.num l.extra))) hd).trans ?_
  rw [hnum]

/-- Settles O31: the fields of `resetWith`, read as numbers. -/
theorem resetValues : Obligations.ResetValues := by
  intro c l s n ia
  have hepc : ∀ v : Word, (c.isa.alignPc (c.xlen.narrow v)).toNat = v.toNat % n / ia * ia := by
    intro v
    rw [Isa.toNat_alignPc, Xlen.toNat_narrow]
  have hnarrow : ∀ v : Word, (c.xlen.narrow v).toNat = v.toNat % n := Xlen.toNat_narrow c.xlen
  refine ⟨rfl, rfl, s.readX_zero, fun r hr => ?xreg, fun r => ?freg, rfl, rfl, rfl, rfl, rfl, rfl,
    resetWith_mstatus c l, hepc _, hepc _, hepc _, ?mtvec, hnarrow _, hnarrow _, hnarrow _,
    fun k d hd => ⟨fun v hv => ?given, fun _ => resetWith_extraVal c l hd⟩, rfl, rfl, rfl⟩
  case xreg => rw [resetWith_readX_of_ne c l hr, hnarrow]
  case freg =>
    rw [resetWith_readF, flenNarrow]
    cases c.isa.flen64 <;> rfl
  case mtvec => exact (toNat_and_not_three _).trans (by rw [hnarrow])
  case given =>
    rw [resetWith_extraVal c l hd, hnarrow]
    simp [CsrDesc.initial, hv]

end

/-- Settles O33: reads after writes of the integer file. -/
theorem integerRegisterFile : Obligations.IntegerRegisterFile :=
  fun s _ _ v => ⟨s.readX_zero, s.writeX_zero v, fun hr => s.readX_writeX_self v hr,
    fun hq => s.readX_writeX_ne v hq⟩

/-! ## Updates -/

namespace State.Ok

variable {s : State}

theorem writeX (h : s.Ok) (r : Reg) (v : Word) : (s.writeX r v).Ok := by
  by_cases hr : r = 0#5
  · rwa [hr, State.writeX_zero]
  · rw [State.writeX_of_ne s v hr]
    refine { h with x0 := ?_, xNarrow := fun q => ?_ }
    · exact (regGet_regSet_ne s.x _ (Ne.symm hr)).trans h.x0
    · by_cases hq : q = r
      · subst hq
        exact (congrArg _ (regGet_regSet_self s.x q _)).trans
          ((Xlen.narrow_narrow _ _).trans (regGet_regSet_self s.x q _).symm)
      · exact (congrArg _ (regGet_regSet_ne s.x _ hq)).trans
          ((h.xNarrow q).trans (regGet_regSet_ne s.x _ hq).symm)

theorem writeF (h : s.Ok) (r : Reg) (v : Word) : (s.writeF r v).Ok := by
  refine { h with fNarrow := fun q => ?_ }
  rw [State.writeF_f]
  by_cases hq : q = r
  · subst hq
    rw [regGet_regSet_self]
    exact flenNarrow_flenNarrow _ _
  · rw [regGet_regSet_ne _ _ hq]
    exact h.fNarrow q

theorem raiseFlags (h : s.Ok) (fl : FlagSet) : (s.raiseFlags fl).Ok := { h with }

theorem regsWritten {u : State} (h : s.Ok) (hu : RegsWritten s u) : u.Ok := by
  induction hu with
  | refl => exact h
  | writeX r v _ ih => exact ih.writeX r v
  | writeF r v _ ih => exact ih.writeF r v
  | raiseFlags fl _ ih => exact ih.raiseFlags fl

theorem setPc {v : Word} (h : s.Ok) (hv : s.cfg.isa.pcAligned (s.xlen.narrow v) = true) :
    (s.setPc v).Ok :=
  { h with pcNarrow := Xlen.narrow_narrow _ _, pcAligned := hv }

theorem advance {n : Nat} (h : s.Ok) (hn : n % s.cfg.isa.ialignBytes = 0) : (s.advance n).Ok := by
  refine h.setPc ?_
  rw [State.nextPc, Xlen.narrow_narrow]
  exact Isa.pcAligned_narrow_add s.xlen h.pcAligned hn

theorem storeBytes (h : s.Ok) (as : List Nat) (v : Word) : (s.storeBytes as v).Ok :=
  { h with mem := Memory.writeLE_wf h.mem as v, modified := addrsOk_addAddrs h.modified as }

/-! ### Exceptions -/

theorem stop (h : s.Ok) (why : StopReason) (info : Word) : (s.stop why info).Ok := { h with }

theorem alignPc_pc (h : s.Ok) : s.cfg.isa.alignPc s.pc = s.pc :=
  Isa.alignPc_eq_self_of_aligned h.pcAligned

theorem toNat_mtvec (h : s.Ok) : s.mtvec.toNat = s.mtvec.toNat % 2 ^ s.xlen.bits / 4 * 4 := by
  conv => lhs; rw [← h.mtvec, toNat_and_not_three, Xlen.toNat_narrow]

theorem narrow_mtvec (h : s.Ok) : s.xlen.narrow s.mtvec = s.mtvec := by
  refine Xlen.narrow_eq_self_iff.2 ?_
  rw [h.toNat_mtvec]
  exact Nat.lt_of_le_of_lt (Nat.div_mul_le_self _ _) (Nat.mod_lt _ (Xlen.two_pow_bits_pos _))

theorem mtvec_and_not_three (h : s.Ok) : s.mtvec &&& ~~~3#64 = s.mtvec := by
  have hmtvec := h.mtvec
  rwa [h.narrow_mtvec] at hmtvec

theorem pcAligned_mtvec (h : s.Ok) : s.cfg.isa.pcAligned s.mtvec = true := by
  rw [Isa.pcAligned_iff, h.toNat_mtvec]
  exact Nat.mod_eq_zero_of_dvd (Nat.dvd_trans (Isa.ialignBytes_dvd_four _) (Nat.dvd_mul_left _ _))

theorem narrow_code (x : Xlen) (e : Exc) : x.narrow (BitVec.ofNat 64 e.code) = BitVec.ofNat 64 e.code := by
  have hcode : e.code < 12 := by
    cases e
    case environmentCall p => cases p <;> decide
    all_goals decide
  have hpow : 12 < 2 ^ x.bits := by cases x <;> decide
  rw [Xlen.narrow_eq_self_iff, BitVec.toNat_ofNat]
  exact Nat.lt_of_le_of_lt (Nat.mod_le _ _) (Nat.lt_trans hcode hpow)

/-- In a well-formed state the entry cuts nothing off (`spec/60_exceptions.md` R480). -/
theorem trapEntry_eq (h : s.Ok) (e : Exc) (info : Word) :
    s.trapEntry e info =
      { s with mepc := s.pc, mcause := BitVec.ofNat 64 e.code, mtval := s.xlen.narrow info,
               mpie := s.mie, mie := false, mpp := s.priv, priv := .m, pc := s.mtvec } := by
  rw [State.trapEntry, h.alignPc_pc, h.mtvec_and_not_three]

theorem trapEntry (h : s.Ok) (e : Exc) (info : Word) :
    (s.trapEntry e info).Ok := by
  rw [h.trapEntry_eq]
  refine { h with pcNarrow := h.narrow_mtvec, pcAligned := h.pcAligned_mtvec, mepc := ?_,
                  mcause := narrow_code _ e, mtval := Xlen.narrow_narrow _ _, mpp := h.priv,
                  priv := ?_, faultMode := fun _ => rfl }
  · exact (congrArg _ h.pcNarrow).trans h.alignPc_pc
  · cases hmodes : s.cfg.privModes <;> rfl

theorem raise (h : s.Ok) (e : Exc) (info : Word) : (s.raise e info).Ok := by
  obtain ⟨-, hraise⟩ | ⟨-, hraise⟩ := s.raise_cases e info
  · rw [hraise]
    exact h.stop _ _
  · rw [hraise]
    exact h.trapEntry e info

theorem has_lowest (modes : PrivModes) : modes.has modes.lowest = true := by
  cases modes <;> rfl

theorem popStatus (h : s.Ok) (hlayer : s.cfg.trapLayer = .mmode) : s.popStatus.Ok := by
  refine { h with priv := h.mpp, mpp := has_lowest _, faultMode := fun hfault => ?_ }
  cases hlayer.symm.trans hfault

/-! ### Services of the host -/

theorem hostPoke (h : s.Ok) (a : Nat) (b : Byte) : (s.hostPoke a b).Ok :=
  { h with mem := Memory.write_wf h.mem a b, modified := addrsOk_addAddrs h.modified [a] }

theorem hostPokeAll (h : s.Ok) (q : HostQuery) (i : Nat) (as : List Nat) : (s.hostPokeAll q i as).Ok := by
  induction as generalizing s i with
  | nil => exact h
  | cons a as ih => exact ih (h.hostPoke a _) _

theorem hostEffect (h : s.Ok) (r : HostService) : (s.hostEffect r).Ok :=
  { (h.regsWritten (s.hostSetAll_regsWritten (s.hostQuery r) 0 r.regsWritten)).hostPokeAll
      (s.hostQuery r) r.regsWritten.length (s.hostWrites r) with }

theorem hostServe (h : s.Ok) (r : HostService) : (s.hostServe r).Ok := by
  have heffect := h.hostEffect r
  obtain ⟨-, hserve⟩ | ⟨-, hserve⟩ := s.hostServe_cases r <;> rw [hserve]
  · have hcfg : (s.hostEffect r).cfg = s.cfg := by rw [State.hostEffect_fields]
    have hnext := h.advance (four_mod_ialignBytes s.cfg.isa)
    refine { heffect with pcNarrow := ?_, pcAligned := ?_ }
    · rw [State.xlen, hcfg]
      exact Xlen.narrow_narrow _ _
    · rw [hcfg]
      exact Isa.pcAligned_narrow_add s.xlen h.pcAligned (four_mod_ialignBytes s.cfg.isa)
  · exact heffect

/-! ### Control and status registers -/

theorem setCsr_narrow {x : Xlen} {n : BitVec 12} {v : Word} {cs : List ExtraCsr} (hv : x.narrow v = v)
    (hcs : ∀ c ∈ cs, x.narrow c.val = c.val) : ∀ c ∈ setCsr n v cs, x.narrow c.val = c.val := by
  induction cs with
  | nil => simpa [setCsr] using hv
  | cons d ds ih =>
    obtain ⟨hd, hds⟩ := List.forall_mem_cons.1 hcs
    unfold setCsr
    split
    next => exact List.forall_mem_cons.2 ⟨hv, hds⟩
    next => exact List.forall_mem_cons.2 ⟨hd, ih hds⟩

theorem has_of_privOfCode {modes : PrivModes} {c : BitVec 2} {p : Priv}
    (hp : privOfCode modes c = some p) : modes.has p = true := by
  unfold privOfCode at hp
  split at hp
  case h_3 => cases hp; cases modes <;> rfl
  case h_4 => cases hp
  all_goals
    split at hp
    next hhas => cases hp; exact hhas
    next => cases hp

theorem writeMstatus (h : s.Ok) (v : Word) : (s.writeMstatus v).Ok := by
  refine { h with mpp := ?_ }
  change s.cfg.privModes.has ((privOfCode s.cfg.privModes (v.extractLsb' 11 2)).getD s.mpp) = true
  cases hcode : privOfCode s.cfg.privModes (v.extractLsb' 11 2) with
  | none => exact h.mpp
  | some p => exact has_of_privOfCode hcode

theorem writeNamed (h : s.Ok) (c : Csr) (v : Word) : (s.writeNamed c v).Ok := by
  cases c
  case fflags | frm | fcsr => exact { h with }
  case uepc => exact { h with uepc := Isa.alignPc_narrow_alignPc_narrow _ _ _ }
  case sepc => exact { h with sepc := Isa.alignPc_narrow_alignPc_narrow _ _ _ }
  case mepc => exact { h with mepc := Isa.alignPc_narrow_alignPc_narrow _ _ _ }
  case mstatus => exact h.writeMstatus v
  case mtvec => exact { h with mtvec := Xlen.and_not_three_narrow _ _ }
  case mscratch => exact { h with mscratch := Xlen.narrow_narrow _ _ }
  case mcause => exact { h with mcause := Xlen.narrow_narrow _ _ }
  case mtval => exact { h with mtval := Xlen.narrow_narrow _ _ }

theorem writeCsr (h : s.Ok) (n : BitVec 12) (v : Word) : (s.writeCsr n v).Ok := by
  obtain ⟨c, -, hwrite⟩ | ⟨d, -, -, hwrite⟩ | hwrite := s.writeCsr_cases n v <;> rw [hwrite]
  · exact h.writeNamed c v
  · exact { h with extra := setCsr_narrow (Xlen.narrow_narrow _ _) h.extra }
  · exact h

/-! ### Effects -/

theorem effect {t : State} {csr : Bool} (h : s.Ok) (ht : Effect s csr t) : t.Ok := by
  cases ht with
  | raised as v n e info =>
    have hstored : State.Ok { s.storeBytes as v with draws := n } := { h.storeBytes as v with }
    exact hstored.raise e info
  | stopped why info => exact h.stop why info
  | advanced ilen hu hlen => exact (h.regsWritten hu).advance (hu.cfg ▸ hlen)
  | jumped target hu htarget =>
    refine (h.regsWritten hu).setPc ?_
    rw [State.xlen, hu.cfg]
    exact htarget
  | stored as v ilen hlen => exact (h.storeBytes as v).advance hlen
  | csrWritten n v hcsr hmode hu =>
    exact ((h.writeCsr n v).regsWritten hu).advance (four_mod_ialignBytes _)
  | served why info r => exact (h.stop why info).hostServe r
  | popped hlayer hM =>
    exact State.Ok.popStatus (h.setPc (Isa.pcAligned_narrow_alignPc _ _ _)) hlayer

end State.Ok

/-- Settles O25: a step that goes on has an effect, and each keeps the invariant. -/
theorem stepKeepsOk : Obligations.StepKeepsOk := by
  intro s t h hstep
  obtain ⟨csr, heffect⟩ := exists_effect_of_step hstep
  exact h.effect heffect

end Sys2Proof.Machine
end


section
/-! Fetching an instruction from memory, and the instructions that trap or return from a trap
(`spec/20_memory.md` R75, R82, R87, `spec/46_priv_csr.md` R441 to R445, `spec/60_exceptions.md` R472 to
R482, `spec/70_reset_and_hazards.md` R526). -/

namespace Sys2Proof.Machine

/-! ## The program counter -/

/-- Adding to an address and cutting to `XLEN` bits is addition modulo `2^XLEN`. -/
theorem Xlen.toNat_narrow_add_ofNat (x : Xlen) (v : Word) (n : Nat) :
    (x.narrow (v + BitVec.ofNat 64 n)).toNat = (v.toNat + n) % 2 ^ x.bits := by
  have hdvd : 2 ^ x.bits ∣ 2 ^ 64 := by cases x <;> decide
  rw [Xlen.toNat_narrow, BitVec.toNat_add, Nat.mod_mod_of_dvd _ hdvd, BitVec.toNat_ofNat, Nat.add_mod,
    Nat.mod_mod_of_dvd _ hdvd, ← Nat.add_mod]

theorem State.toNat_nextPc (s : State) (n : Nat) :
    (s.nextPc n).toNat = (s.pc.toNat + n) % 2 ^ s.xlen.bits :=
  Xlen.toNat_narrow_add_ofNat s.xlen s.pc n

@[simp] theorem State.narrow_nextPc (s : State) (n : Nat) : s.xlen.narrow (s.nextPc n) = s.nextPc n :=
  Xlen.narrow_narrow _ _

theorem PcAdvanced.of_pc_eq {s t : State} {n : Nat} (hpc : t.pc = s.nextPc n) : PcAdvanced s t n := by
  rw [PcAdvanced, hpc, State.toNat_nextPc]

theorem State.pcAdvanced_advance {s u : State} (n : Nat) (hxlen : u.xlen = s.xlen) (hpc : u.pc = s.pc) :
    PcAdvanced s (u.advance n) n := by
  refine .of_pc_eq ?_
  rw [State.advance_pc, State.narrow_nextPc, State.nextPc, hxlen, hpc, State.nextPc]

/-! ## Fetching -/

theorem byteSum_append (m : Memory) (as bs : List Nat) :
    byteSum m (as ++ bs) = byteSum m as + 256 ^ as.length * byteSum m bs := by
  induction as with
  | nil => simp [byteSum]
  | cons a as ih =>
    rw [List.cons_append, byteSum, ih, byteSum, List.length_cons, Nat.pow_succ', Nat.mul_add, Nat.mul_assoc,
      Nat.add_assoc]

@[simp] theorem State.length_accessAddrs (s : State) (ea : Word) (n : Nat) :
    (s.accessAddrs ea n).length = n := by
  simp [State.accessAddrs]

/-- The two parcels of a 32-bit instruction, wrapping at the end of the address space (R89). -/
theorem State.accessAddrs_four (s : State) (a : Word) :
    s.accessAddrs a 4 = s.accessAddrs a 2 ++ s.accessAddrs (a + 2#64) 2 := by
  have hdvd : 2 ^ s.xlen.bits ∣ 2 ^ 64 := by cases s.xlen <;> decide
  have hwrap : ∀ i, ((a + 2#64).toNat + i) % 2 ^ s.xlen.bits = (a.toNat + (2 + i)) % 2 ^ s.xlen.bits := by
    intro i
    rw [BitVec.toNat_add, Nat.add_mod, Nat.mod_mod_of_dvd _ hdvd, ← Nat.add_mod, Nat.add_assoc]
    rfl
  have htail : s.accessAddrs (a + 2#64) 2 =
      [(a.toNat + 2) % 2 ^ s.xlen.bits, (a.toNat + 3) % 2 ^ s.xlen.bits] := by
    simp only [State.accessAddrs, List.range_succ, List.range_zero, List.nil_append,
      List.map_cons, List.map_nil, List.cons_append, hwrap, Nat.reduceAdd]
  rw [htail]
  simp [State.accessAddrs, List.range_succ]

theorem State.fetch_of_full {s : State} (hfull : isFull (s.parcelAt s.pc) = true)
    (hbytes : ∀ a ∈ s.accessAddrs s.pc 4, s.canExec a = true ∧ a ∉ s.modified) :
    s.fetch = .got (.full (s.parcelAt (s.pc + 2#64) ++ s.parcelAt s.pc)) := by
  simp only [State.accessAddrs_four, List.mem_append] at hbytes
  have hexec0 := (s.parcelExec_iff s.pc).2 fun a ha => (hbytes a (.inl ha)).1
  have hexec1 := (s.parcelExec_iff (s.pc + 2#64)).2 fun a ha => (hbytes a (.inr ha)).1
  have hfresh0 := (s.parcelModified_eq_false_iff s.pc).2 fun a ha => (hbytes a (.inl ha)).2
  have hfresh1 := (s.parcelModified_eq_false_iff (s.pc + 2#64)).2 fun a ha => (hbytes a (.inr ha)).2
  simp [State.fetch, hfull, hexec0, hexec1, hfresh0, hfresh1]

theorem append_halves (w : BitVec 32) : w.extractLsb' 16 16 ++ w.extractLsb' 0 16 = w := by
  simp (disch := decide) only [BitVec.extractLsb'_append_extractLsb'_eq_extractLsb',
    BitVec.extractLsb'_eq_self]

/-- The bytes of an instruction at `pc` are fetched as that instruction (R75). -/
theorem State.fetch_of_byteSum {s : State} {x : Fetched} (htag : Laws.LengthTag.Tagged x)
    (hsum : byteSum s.mem (s.accessAddrs s.pc x.ilen) = x.bits.toNat)
    (hbytes : ∀ a ∈ s.accessAddrs s.pc x.ilen, s.canExec a = true ∧ a ∉ s.modified) :
    s.fetch = .got x := by
  cases x with
  | half h =>
    have hparcel : s.parcelAt s.pc = h := by
      rw [State.parcelAt_eq_ofNat_byteSum, show byteSum s.mem (s.accessAddrs s.pc 2) = _ from hsum]
      apply BitVec.eq_of_toNat_eq
      rw [Fetched.bits, BitVec.toNat_ofNat, BitVec.toNat_setWidth]
      have hh := h.isLt
      omega
    have hexec := (s.parcelExec_iff s.pc).2 fun a ha => (hbytes a ha).1
    have hfresh := (s.parcelModified_eq_false_iff s.pc).2 fun a ha => (hbytes a ha).2
    rw [State.fetch_of_half (hparcel ▸ htag) hexec hfresh, hparcel]
  | full w =>
    have hlow := byteSum_lt s.mem (s.accessAddrs s.pc 2)
    have hword : byteSum s.mem (s.accessAddrs s.pc 2) +
        65536 * byteSum s.mem (s.accessAddrs (s.pc + 2#64) 2) = w.toNat := by
      have h := hsum
      rw [Fetched.ilen, State.accessAddrs_four, byteSum_append, State.length_accessAddrs] at h
      rw [Fetched.bits, BitVec.toNat_setWidth] at h
      have hw := w.isLt
      omega
    have hlo : s.parcelAt s.pc = w.extractLsb' 0 16 := by
      rw [State.parcelAt_eq_ofNat_byteSum]
      apply BitVec.eq_of_toNat_eq
      simp only [State.length_accessAddrs] at hlow
      simp only [BitVec.toNat_ofNat, BitVec.extractLsb'_toNat, Nat.shiftRight_zero, ← hword]
      omega
    have hhi : s.parcelAt (s.pc + 2#64) = w.extractLsb' 16 16 := by
      rw [State.parcelAt_eq_ofNat_byteSum]
      apply BitVec.eq_of_toNat_eq
      simp only [State.length_accessAddrs] at hlow
      simp only [BitVec.toNat_ofNat, BitVec.extractLsb'_toNat, Nat.shiftRight_eq_div_pow, ← hword]
      omega
    have hfull : isFull (s.parcelAt s.pc) = true := by rw [hlo]; exact htag
    rw [State.fetch_of_full hfull hbytes, hlo, hhi, append_halves]

/-- Settles O8: the step matches on what the fetch gives and on what that decodes to. -/
theorem stepRunsDecodedInstruction : Obligations.StepRunsDecodedInstruction := by
  intro s x i hrun hfetch hdecode
  rw [State.Running] at hrun
  simp [step, hrun, State.fetchDecode, hfetch, hdecode]

/-- Settles O9: the bytes are fetched as the encoding, which decodes to the instruction (O1). -/
theorem stepRunsInstructionInMemory : Obligations.StepRunsInstructionInMemory := by
  intro s i hrun hwf hsum hbytes
  have hfetch := State.fetch_of_byteSum (lengthTag_encode i) hsum hbytes
  exact stepRunsDecodedInstruction s _ i hrun hfetch (decodeEncode _ i hwf)

/-! ## Fetch faults -/

theorem State.isFull_parcelAt_iff (s : State) :
    isFull (s.parcelAt s.pc) = true ↔ byteSum s.mem (s.accessAddrs s.pc 2) % 4 = 3 := by
  rw [isFull_iff, State.parcelAt_eq_ofNat_byteSum, ← BitVec.toNat_inj]
  simp only [BitVec.extractLsb'_toNat, BitVec.toNat_ofNat, Nat.shiftRight_zero]
  omega

theorem State.fetchLength_of_full {s : State} (hfull : isFull (s.parcelAt s.pc) = true) :
    s.fetchLength = 4 := by
  rw [State.fetchLength, if_pos (s.isFull_parcelAt_iff.1 hfull)]

theorem State.fetchLength_of_half {s : State} (hhalf : isFull (s.parcelAt s.pc) = false) :
    s.fetchLength = 2 := by
  rw [State.fetchLength, if_neg (mt s.isFull_parcelAt_iff.2 (by simp [hhalf]))]

theorem State.parcelExec_eq_false {s : State} {p : Word} {b : Nat} (hb : b ∈ s.accessAddrs p 2)
    (hexec : s.canExec b = false) : s.parcelExec p = false := by
  refine eq_false_of_ne_true fun h => ?_
  rw [(s.parcelExec_iff p).1 h b hb] at hexec
  cases hexec

theorem State.parcelModified_eq_true {s : State} {p : Word} {b : Nat} (hb : b ∈ s.accessAddrs p 2)
    (hmod : b ∈ s.modified) : s.parcelModified p = true :=
  eq_true_of_ne_false fun h => (s.parcelModified_eq_false_iff p).1 h b hb hmod

theorem State.fetch_of_not_exec {s : State} {b : Nat} (hb : b ∈ s.accessAddrs s.pc s.fetchLength)
    (hexec : s.canExec b = false) : s.fetch = .accessFault := by
  cases hfull : isFull (s.parcelAt s.pc) with
  | false =>
    rw [State.fetchLength_of_half hfull] at hb
    simp [State.fetch, State.parcelExec_eq_false hb hexec]
  | true =>
    rw [State.fetchLength_of_full hfull, State.accessAddrs_four, List.mem_append] at hb
    obtain hb | hb := hb
    · simp [State.fetch, State.parcelExec_eq_false hb hexec]
    · simp [State.fetch, hfull, State.parcelExec_eq_false hb hexec]

theorem State.fetch_of_modified {s : State}
    (hexec : ∀ a ∈ s.accessAddrs s.pc s.fetchLength, s.canExec a = true) {b : Nat}
    (hb : b ∈ s.accessAddrs s.pc s.fetchLength) (hmod : b ∈ s.modified) : s.fetch = .modified := by
  cases hfull : isFull (s.parcelAt s.pc) with
  | false =>
    rw [State.fetchLength_of_half hfull] at hb hexec
    simp [State.fetch, hfull, (s.parcelExec_iff s.pc).2 hexec, State.parcelModified_eq_true hb hmod]
  | true =>
    rw [State.fetchLength_of_full hfull, State.accessAddrs_four] at hb hexec
    rw [List.forall_mem_append] at hexec
    obtain ⟨hexec0, hexec1⟩ := hexec
    have hmodified : (s.parcelModified s.pc || s.parcelModified (s.pc + 2#64)) = true := by
      obtain hb | hb := List.mem_append.1 hb
      · simp [State.parcelModified_eq_true hb hmod]
      · simp [State.parcelModified_eq_true hb hmod]
    simp only [State.fetch, hfull, (s.parcelExec_iff s.pc).2 hexec0, (s.parcelExec_iff _).2 hexec1,
      hmodified, Bool.not_true, Bool.false_eq_true, if_false, if_true]

/-- Settles O10: the fetch looks at access first, parcel by parcel, and then at the record. -/
theorem fetchFaults : Obligations.FetchFaults := by
  intro s hrun
  refine ⟨fun ⟨b, hb, hexec⟩ => step_of_done hrun ?_, fun hexec ⟨b, hb, hmod⟩ => step_of_done hrun ?_⟩
  · rw [State.fetchDecode, State.fetch_of_not_exec hb hexec]
  · rw [State.fetchDecode, State.fetch_of_modified hexec hb hmod, State.stop]

/-! ## Exceptions -/

/-- Settles O14: under the layer a raise is `State.stop`, after which the machine is halted. -/
theorem faultLayerRaise : Obligations.FaultLayerRaise := by
  intro s e info hlayer
  rw [State.raise_of_fault e info hlayer]
  exact ⟨rfl, step_of_faulted rfl⟩

/-- Settles O15: in a well-formed state the entry cuts nothing off. -/
theorem trapEntry : Obligations.TrapEntry := by
  refine ⟨fun s e info hok hlayer => ?entry, rfl, rfl, rfl, rfl, rfl, rfl, rfl, rfl, rfl, rfl, rfl⟩
  case entry =>
    rw [← hok.trapEntry_eq, State.raise, hlayer]

/-! ## Returns -/

theorem State.returnTo_onlyPc (s : State) (epc : Word) : OnlyPc s (s.returnTo epc) := ⟨rfl, fun _ => rfl⟩

theorem State.returnTo_pc_of_hasCsr {s : State} {c : Csr} {epc : Word} (hc : s.hasCsr c = true)
    (hread : s.readNamed c = s.cfg.isa.alignPc epc) :
    (s.returnTo epc).pc = s.xlen.narrow (s.readCsr (csrNumber c)) := by
  rw [State.readCsr_of_hasCsr hc, hread, State.returnTo_pc]

section
variable {s : State} (hS : s.cfg.isa.s = true)
include hS

/-- The system instructions are those of a machine with `S`. -/
theorem State.listed_of_needsS {i : Instr} (k : State → State)
    (hneeds : i.illFormed s.cfg.isa = IllFormed.unless s.cfg.isa.s .needsS) : s.listed i k = k s :=
  State.listed_of_wf k (by simp [Instr.wf, hneeds, IllFormed.unless, hS])

theorem exec_uret : exec .uret s =
    .next (if s.hasCsr .uepc then s.returnTo s.uepc else s.illegal .uret) := by
  rw [exec, execUret, State.listed_of_needsS hS _ rfl]

theorem exec_sret : exec .sret s =
    .next (if s.priv.below .s || !s.hasCsr .sepc then s.illegal .sret else s.returnTo s.sepc) := by
  rw [exec, execSret, State.listed_of_needsS hS _ rfl]

theorem exec_mret : exec .mret s =
    .next (if s.priv.below .m || !s.hasCsr .mepc then s.illegal .mret else s.machineReturn) := by
  rw [exec, execMret, State.listed_of_needsS hS _ rfl]

end

theorem Priv.below_s_iff (p : Priv) : p.below .s = true ↔ p = .u := by
  cases p <;> decide

/-- Settles O17: each return by its checks, in the order of the statement. -/
theorem returnsFromException : Obligations.ReturnsFromException := by
  intro s hS
  refine ⟨fun huepc => ?uret, fun hsepc hpriv => ?sret, fun hmepc hM hlayer => ?mret,
    fun huepc => ?noUepc, fun hsret => ?noSret, fun hmret => ?noMret⟩
  case uret =>
    refine ⟨s.returnTo s.uepc, ?_, s.returnTo_onlyPc _, State.returnTo_pc_of_hasCsr (c := .uepc) huepc rfl⟩
    rw [exec_uret hS, if_pos huepc]
  case sret =>
    refine ⟨s.returnTo s.sepc, ?_, s.returnTo_onlyPc _, State.returnTo_pc_of_hasCsr (c := .sepc) hsepc rfl⟩
    rw [exec_sret hS, if_neg (by simp [Priv.below_s_iff, hpriv, hsepc])]
  case mret =>
    refine ⟨s.returnTo s.mepc, ?_, s.returnTo_onlyPc _, State.returnTo_pc_of_hasCsr (c := .mepc) hmepc rfl⟩
    rw [exec_mret_of_allowed hS hmepc hM, State.machineReturn_of_fault hlayer]
  case noUepc =>
    rw [Raises, exec_uret hS, huepc]
    rfl
  case noSret =>
    rw [Raises, exec_sret hS, if_pos (by simpa [Priv.below_s_iff] using hsret)]
    rfl
  case noMret =>
    have hbelow : (s.priv.below .m || !s.hasCsr .mepc) = true := by
      rw [Bool.or_eq_true, Bool.not_eq_true']
      exact hmret.imp_left fun hne => eq_true_of_ne_false (mt (Priv.below_m_eq_false_iff _).1 hne)
    rw [Raises, exec_mret hS, if_pos hbelow]
    rfl

/-! ## Calls -/

theorem exec_ecall {s : State} (hS : s.cfg.isa.s = true) : exec .ecall s = .next s.environmentCall := by
  rw [exec, execEcall, State.listed_of_needsS hS _ rfl]

/-- The state of an environment call that `HOST` serves. -/
def State.stoppedCall (s : State) : State := s.stop (.exception (.environmentCall s.priv)) 0#64

/-- What a service does is chosen by state that a stop does not touch. -/
theorem State.hostRow_stoppedCall (s : State) : s.stoppedCall.hostRow = s.hostRow := rfl

theorem State.raise_environmentCall {s : State} (hlayer : s.cfg.trapLayer = .fault) :
    s.raise (.environmentCall s.priv) 0#64 = s.stoppedCall :=
  State.raise_of_fault _ _ hlayer

theorem State.environmentCall_of_row {s : State} {h : HostService} (hlayer : s.cfg.trapLayer = .fault)
    (hrow : s.hostRow = some h) : s.environmentCall = s.stoppedCall.hostServe h := by
  simp only [State.environmentCall, hlayer, State.raise_environmentCall hlayer, State.hostRow_stoppedCall,
    hrow]

theorem State.environmentCall_of_no_row {s : State}
    (h : s.cfg.trapLayer = .mmode ∨ s.hostRow = none) :
    s.environmentCall = s.raise (.environmentCall s.priv) 0#64 := by
  cases hlayer : s.cfg.trapLayer with
  | mmode => simp only [State.environmentCall, hlayer]
  | fault =>
    obtain hmmode | hnone := h
    · cases hlayer.symm.trans hmmode
    · simp only [State.environmentCall, hlayer, State.raise_environmentCall hlayer,
        State.hostRow_stoppedCall, hnone]

theorem State.hostRow_of_host_nil {s : State} (hhost : s.cfg.host = []) : s.hostRow = none := by
  simp [State.hostRow, hhost]

theorem State.readX_hostSetAll_of_notMem (s : State) (q : HostQuery) (i : Nat) {rs : List HostReg}
    {r : Reg} (hr : .x r ∉ rs) : (s.hostSetAll q i rs).readX r = s.readX r := by
  induction rs generalizing s i with
  | nil => rfl
  | cons d rs ih =>
    obtain ⟨hne, htail⟩ := not_or.1 (mt List.mem_cons.2 hr)
    rw [State.hostSetAll, ih _ _ htail]
    cases d with
    | x d => exact s.readX_writeX_ne _ fun h => hne (congrArg _ h)
    | f d => rfl

theorem State.readF_hostSetAll_of_notMem (s : State) (q : HostQuery) (i : Nat) {rs : List HostReg}
    {r : Reg} (hr : .f r ∉ rs) : (s.hostSetAll q i rs).readF r = s.readF r := by
  induction rs generalizing s i with
  | nil => rfl
  | cons d rs ih =>
    obtain ⟨hne, htail⟩ := not_or.1 (mt List.mem_cons.2 hr)
    rw [State.hostSetAll, ih _ _ htail]
    cases d with
    | x d => exact State.readF_congr (s.writeX_f d _) r
    | f d => exact s.readF_writeF_ne _ fun h => hne (congrArg _ h)

theorem State.readX_hostEffect_of_notMem (s : State) {h : HostService} {r : Reg}
    (hr : .x r ∉ h.regsWritten) : (s.hostEffect h).readX r = s.readX r := by
  have hx : (s.hostEffect h).x = (s.hostSetAll (s.hostQuery h) 0 h.regsWritten).x  := by
    rw [State.hostEffect, State.hostPokeAll_fields]
  exact (State.readX_congr hx r).trans (s.readX_hostSetAll_of_notMem _ 0 hr)

theorem State.readF_hostEffect_of_notMem (s : State) {h : HostService} {r : Reg}
    (hr : .f r ∉ h.regsWritten) : (s.hostEffect h).readF r = s.readF r := by
  have hf : (s.hostEffect h).f = (s.hostSetAll (s.hostQuery h) 0 h.regsWritten).f  := by
    rw [State.hostEffect, State.hostPokeAll_fields]
  exact (State.readF_congr hf r).trans (s.readF_hostSetAll_of_notMem _ 0 hr)

theorem State.hostEffect_stoppedCall (s : State) (h : HostService) :
    s.stoppedCall.hostEffect h =
      { s with x := (s.stoppedCall.hostEffect h).x, f := (s.stoppedCall.hostEffect h).f,
               mem := (s.stoppedCall.hostEffect h).mem,
               modified := (s.stoppedCall.hostEffect h).modified,
               outcome := .faulted (.exception (.environmentCall s.priv)) 0#64 s.pc,
               draws := s.draws + 1 } := by
  conv => lhs; rw [State.hostEffect_fields]
  simp [State.stoppedCall, State.stop]

/-- Only what the row writes differs, and the run resumes after the call or has ended. -/
theorem Served.of_hostServe (s : State) (h : HostService) : Served s (s.stoppedCall.hostServe h) h := by
  have hfields := s.hostEffect_stoppedCall h
  obtain ⟨hres, hserve⟩ | ⟨hres, hserve⟩ := s.stoppedCall.hostServe_cases h <;> rw [hserve]
  · exact { fields := by rw [hfields],
            regs := fun _ hr => State.readX_hostEffect_of_notMem s.stoppedCall hr,
            fregs := fun _ hr => State.readF_hostEffect_of_notMem s.stoppedCall hr,
            zero := State.readX_zero _,
            bytes := fun _ ha => s.stoppedCall.read_hostEffect_of_notMem h ha,
            record := s.stoppedCall.modified_hostEffect h,
            resumed := fun _ => ⟨rfl, .of_pc_eq rfl⟩,
            ended := fun hno => absurd (hno.symm.trans hres) Bool.false_ne_true }
  · exact { fields := by rw [hfields],
            regs := fun _ hr => State.readX_hostEffect_of_notMem s.stoppedCall hr,
            fregs := fun _ hr => State.readF_hostEffect_of_notMem s.stoppedCall hr,
            zero := State.readX_zero _,
            bytes := fun _ ha => s.stoppedCall.read_hostEffect_of_notMem h ha,
            record := s.stoppedCall.modified_hostEffect h,
            resumed := fun hyes => absurd (hres.symm.trans hyes) Bool.false_ne_true,
            ended := fun _ => by rw [hfields]; exact ⟨rfl, rfl⟩ }

/-- Settles O18: a call by the layer and by the row that is selected. -/
theorem callsAndBreakpoints : Obligations.CallsAndBreakpoints := by
  intro s
  have hquiet : s.cfg.isa.s = true → (s.cfg.trapLayer = .mmode ∨ s.hostRow = none) →
      Raises s .ecall (.environmentCall s.priv) 0#64 := by
    intro hS hnone
    rw [Raises, exec_ecall hS, State.environmentCall_of_no_row hnone]
  refine ⟨fun hS hhost => hquiet hS (.inr (State.hostRow_of_host_nil hhost)), hquiet,
    fun h hS hlayer hrow => ?served, fun hS => ?ebreak, fun hC => ?cEbreak⟩
  case served =>
    refine ⟨_, exec_ecall hS, ?_⟩
    rw [State.environmentCall_of_row hlayer hrow]
    exact Served.of_hostServe s h
  case ebreak => rw [Raises, exec, execEbreak, State.listed_of_needsS hS _ rfl]
  case cEbreak =>
    have hwf : Instr.wf s.cfg.isa .cEbreak = true := by
      simp [Instr.wf, Instr.illFormed, IllFormed.unless, hC]
    rw [Raises, exec, execCEbreak, State.listed_of_wf _ hwf]

end Sys2Proof.Machine
end


section
/-! Integer arithmetic: what each operation of the ALU is in exact arithmetic, and what an instruction
made of one leaves (`spec/00_scope.md` R11 to R14, `spec/40_rv32i.md`, `spec/41_rv64i.md`,
`spec/43_rvm.md`). -/

namespace Sys2Proof.Machine

/-! ## Values of `XLEN` bits -/

/-- The low `XLEN` bits of a slot, as a value of that width. -/
def Xlen.cut (x : Xlen) (v : Word) : BitVec x.bits := v.setWidth x.bits

theorem Xlen.toNat_cut (x : Xlen) (v : Word) : (Xlen.cut x v).toNat = x.unsigned v := by
  rw [Xlen.cut, BitVec.toNat_setWidth, Xlen.unsigned_eq]

theorem Xlen.toInt_cut (x : Xlen) (v : Word) : (Xlen.cut x v).toInt = x.signed v := by
  cases x
  · rfl
  · exact congrArg BitVec.toInt (BitVec.setWidth_eq v)

theorem Xlen.toNat_lift2 (x : Xlen) (op : (w : Nat) → BitVec w → BitVec w → BitVec w) (a b : Word) :
    (x.lift2 op a b).toNat = (op x.bits (Xlen.cut x a) (Xlen.cut x b)).toNat := by
  cases x
  · simp only [Xlen.lift2, BitVec.toNat_setWidth]
    exact Nat.mod_eq_of_lt (Nat.lt_trans (BitVec.isLt _) (by decide))
  · simp [Xlen.lift2, Xlen.cut, Xlen.bits]

theorem Xlen.cmp_eq (x : Xlen) (op : (w : Nat) → BitVec w → BitVec w → Bool) (a b : Word) :
    x.cmp op a b = op x.bits (Xlen.cut x a) (Xlen.cut x b) := by
  cases x
  · rfl
  · simp [Xlen.cmp, Xlen.cut, Xlen.bits]

theorem setWidth_signExtend_of_le {w m n : Nat} (v : BitVec w) (hm : m ≤ n) :
    (v.signExtend n).setWidth m = v.signExtend m := by
  apply BitVec.eq_of_getLsbD_eq
  intro k hk
  rw [BitVec.getLsbD_setWidth, BitVec.getLsbD_signExtend, BitVec.getLsbD_signExtend]
  simp [hk, Nat.lt_of_lt_of_le hk hm]

theorem Xlen.signed_sext (x : Xlen) {w : Nat} (v : BitVec w) (hw : w ≤ 32) :
    x.signed (sext v) = v.toInt := by
  cases x
  · simp only [Xlen.signed, sext]
    rw [setWidth_signExtend_of_le v (by decide), BitVec.toInt_signExtend_of_le hw]
  · exact BitVec.toInt_signExtend_of_le (Nat.le_trans hw (by decide))

theorem Xlen.unsigned_zext (x : Xlen) {w : Nat} (v : BitVec w) (hw : w ≤ 32) :
    x.unsigned (zext v) = v.toNat := by
  have hslot : v.toNat < 2 ^ 32 := Nat.lt_of_lt_of_le v.isLt (Nat.pow_le_pow_right (by decide) hw)
  have hbits : 2 ^ 32 ≤ 2 ^ x.bits := by cases x <;> decide
  rw [Xlen.unsigned_eq, zext, BitVec.toNat_setWidth, Nat.mod_eq_of_lt (Nat.lt_trans hslot (by decide)),
    Nat.mod_eq_of_lt (Nat.lt_of_lt_of_le hslot hbits)]

/-- The unsigned reading is the signed one modulo `2^XLEN`. -/
theorem Xlen.unsigned_eq_signed_emod (x : Xlen) (v : Word) :
    (x.unsigned v : Int) = x.signed v % 2 ^ x.bits := by
  rw [← Xlen.toNat_cut, ← Xlen.toInt_cut, BitVec.toInt_eq_toNat_bmod]
  have hlt : ((Xlen.cut x v).toNat : Int) < 2 ^ x.bits := by exact_mod_cast (Xlen.cut x v).isLt
  rw [show (2 : Int) ^ x.bits = ((2 ^ x.bits : Nat) : Int) by norm_cast, Int.bmod_emod,
    Int.emod_eq_of_lt (Int.natCast_nonneg _) (by exact_mod_cast hlt)]

theorem State.unsigned_sext (s : State) {w : Nat} (imm : BitVec w) (hw : w ≤ 32) :
    s.xlen.unsigned (sext imm) = s.immU imm := by
  have h := Xlen.unsigned_eq_signed_emod s.xlen (sext imm)
  rw [Xlen.signed_sext _ imm hw] at h
  rw [State.immU, ← h, Int.toNat_natCast]

/-! ## Values as residues -/

/-- A value of `w` bits is an integer modulo `2^w`. -/
theorem toNat_eq_emod_of_eq_ofInt {w : Nat} {v : BitVec w} {n : Int} (hv : v = BitVec.ofInt w n) :
    (v.toNat : Int) = n % 2 ^ w := by
  have hpos : (0 : Int) ≤ n % (2 ^ w : Nat) :=
    Int.emod_nonneg _ (Int.natCast_ne_zero.2 (Nat.ne_of_gt (Nat.two_pow_pos w)))
  rw [hv, BitVec.toNat_ofInt, Int.toNat_of_nonneg hpos]
  norm_cast

theorem holdsInt_narrow_iff {x : Xlen} {v : Word} {n : Int} :
    HoldsInt x (x.narrow v) n ↔ (v.toNat : Int) % 2 ^ x.bits = n % 2 ^ x.bits := by
  rw [HoldsInt, Xlen.toNat_narrow, natCast_mod_two_pow]

/-- A slot holds its signed reading. -/
theorem holdsInt_narrow_of_toInt {x : Xlen} {v : Word} {n : Int} (hv : v.toInt = n) :
    HoldsInt x (x.narrow v) n := by
  rw [holdsInt_narrow_iff, Xlen.toNat_emod_eq_toInt_emod, hv]

/-- A slot holds its unsigned reading. -/
theorem holdsInt_narrow_of_toNat {x : Xlen} {v : Word} {n : Nat} (hv : v.toNat = n) :
    HoldsInt x (x.narrow v) n := by
  rw [holdsInt_narrow_iff, hv]

theorem holdsInt_narrow_unsigned (x : Xlen) (v : Word) : HoldsInt x (x.narrow v) (x.unsigned v) := by
  rw [holdsInt_narrow_iff, Xlen.unsigned_eq, natCast_mod_two_pow, Int.emod_emod]

theorem holdsInt_lift2 {x : Xlen} {op : (w : Nat) → BitVec w → BitVec w → BitVec w} {a b : Word} {n : Int}
    (hop : op x.bits (Xlen.cut x a) (Xlen.cut x b) = BitVec.ofInt x.bits n) :
    HoldsInt x (x.narrow (x.lift2 op a b)) n := by
  rw [Xlen.narrow_lift2, HoldsInt, Xlen.toNat_lift2]
  exact toNat_eq_emod_of_eq_ofInt hop

/-! ## Writing a register -/

theorem OnlyX.writeX_setPc (s : State) (rd : Reg) (v pc : Word) :
    OnlyX s ((s.writeX rd v).setPc pc) rd where
  fields := by
    by_cases hrd : rd = 0#5
    · rw [hrd, State.writeX_zero]
      rfl
    · rw [State.writeX_of_ne s v hrd]
      rfl
  regs _ hr := s.readX_writeX_ne v hr
  zero := State.readX_zero _
  bytes _ := by rw [State.setPc_mem, State.writeX_mem]

theorem OnlyX.setRd (s : State) (rd : Reg) (v : Word) (ilen : Nat) : OnlyX s (s.setRd rd v ilen) rd :=
  .writeX_setPc s rd v _

theorem PcAdvanced.setRd (s : State) (rd : Reg) (v : Word) (ilen : Nat) :
    PcAdvanced s (s.setRd rd v ilen) ilen :=
  State.pcAdvanced_advance ilen (s.writeX_xlen rd v) (s.writeX_pc rd v)

section
variable {s : State} {i : Instr} {rd : Reg} {ilen : Nat} {n : Int}

/-- An instruction that puts a value in `x[rd]`. -/
theorem RunsX.of_setRd {v : Word} (hexec : exec i s = .next (s.setRd rd v ilen))
    (hv : HoldsInt s.xlen (s.xlen.narrow v) n) : RunsX s i rd ilen n := by
  refine ⟨_, hexec, OnlyX.setRd s rd v ilen, fun hrd => ?_, PcAdvanced.setRd s rd v ilen⟩
  rwa [show (s.setRd rd v ilen).readX rd = _ from s.readX_writeX_self v hrd]

variable {op : (w : Nat) → BitVec w → BitVec w → BitVec w} {rs1 : Reg} {v : Word}

/-- An instruction that puts the result of an operation at `XLEN` bits in `x[rd]`. -/
theorem RunsX.of_aluImm (hexec : exec i s = .next (s.aluImm op rd rs1 v ilen))
    (hop : op s.xlen.bits (Xlen.cut s.xlen (s.readX rs1)) (Xlen.cut s.xlen v) = BitVec.ofInt s.xlen.bits n) :
    RunsX s i rd ilen n :=
  .of_setRd hexec (holdsInt_lift2 hop)

end

/-! ## The operations -/

section
variable {w : Nat} (a b : BitVec w)

theorem aluAdd_eq : aluAdd w a b = BitVec.ofInt w (a.toInt + b.toInt) := by
  rw [BitVec.ofInt_add, BitVec.ofInt_toInt, BitVec.ofInt_toInt, aluAdd]

theorem aluSub_eq : aluSub w a b = BitVec.ofInt w (a.toInt - b.toInt) := by
  rw [Int.sub_eq_add_neg, BitVec.ofInt_add, BitVec.ofInt_neg, BitVec.ofInt_toInt, BitVec.ofInt_toInt, aluSub,
    BitVec.sub_eq_add_neg]

/-- A value is the natural number it reads as. -/
theorem eq_ofInt_toNat : a = BitVec.ofInt w a.toNat := by
  rw [BitVec.ofInt_natCast, BitVec.ofNat_toNat, BitVec.setWidth_eq]

theorem aluAnd_eq : aluAnd w a b = BitVec.ofInt w (a.toNat &&& b.toNat : Nat) := by
  rw [← BitVec.toNat_and]
  exact eq_ofInt_toNat _

theorem aluOr_eq : aluOr w a b = BitVec.ofInt w (a.toNat ||| b.toNat : Nat) := by
  rw [← BitVec.toNat_or]
  exact eq_ofInt_toNat _

theorem aluXor_eq : aluXor w a b = BitVec.ofInt w (a.toNat ^^^ b.toNat : Nat) := by
  rw [← BitVec.toNat_xor]
  exact eq_ofInt_toNat _

theorem ite_one_zero_eq_ofInt (c : Prop) [Decidable c] :
    (if c then 1#w else 0#w) = BitVec.ofInt w (if c then 1 else 0) := by
  split <;> simp

theorem aluSlt_eq : aluSlt w a b = BitVec.ofInt w (if a.toInt < b.toInt then 1 else 0) :=
  ite_one_zero_eq_ofInt _

theorem aluSltu_eq : aluSltu w a b = BitVec.ofInt w (if a.toNat < b.toNat then 1 else 0) :=
  ite_one_zero_eq_ofInt _

theorem aluSll_eq : aluSll w a b = BitVec.ofInt w (a.toNat * 2 ^ (b.toNat % w) : Nat) := by
  rw [aluSll, BitVec.ofInt_natCast, ← Nat.shiftLeft_eq]
  apply BitVec.eq_of_toNat_eq
  rw [BitVec.toNat_shiftLeft, BitVec.toNat_ofNat]

theorem aluSrl_eq : aluSrl w a b = BitVec.ofInt w (a.toNat / 2 ^ (b.toNat % w) : Nat) := by
  rw [aluSrl, ← Nat.shiftRight_eq_div_pow, ← BitVec.toNat_ushiftRight]
  exact eq_ofInt_toNat _

theorem aluSra_eq : aluSra w a b = BitVec.ofInt w (a.toInt / 2 ^ (b.toNat % w)) := by
  rw [aluSra, BitVec.sshiftRight_eq, Int.shiftRight_eq_div_pow]
  norm_cast

end

/-! ## Table B.1 -/

/-- Settles O34: the exact result of each operation. -/
theorem registerArithmetic : Obligations.RegisterArithmetic := by
  intro s rd rs1 rs2
  refine ⟨.of_aluImm rfl ?add, .of_aluImm rfl ?sub, .of_aluImm rfl ?and, .of_aluImm rfl ?or,
    .of_aluImm rfl ?xor, .of_aluImm rfl ?slt, .of_aluImm rfl ?sltu, .of_aluImm rfl ?sll,
    .of_aluImm rfl ?srl, .of_aluImm rfl ?sra⟩
  case add => rw [aluAdd_eq, Xlen.toInt_cut, Xlen.toInt_cut]; rfl
  case sub => rw [aluSub_eq, Xlen.toInt_cut, Xlen.toInt_cut]; rfl
  case and => rw [aluAnd_eq, Xlen.toNat_cut, Xlen.toNat_cut]; rfl
  case or => rw [aluOr_eq, Xlen.toNat_cut, Xlen.toNat_cut]; rfl
  case xor => rw [aluXor_eq, Xlen.toNat_cut, Xlen.toNat_cut]; rfl
  case slt => rw [aluSlt_eq, Xlen.toInt_cut, Xlen.toInt_cut]; rfl
  case sltu => rw [aluSltu_eq, Xlen.toNat_cut, Xlen.toNat_cut]; rfl
  case sll => rw [aluSll_eq, Xlen.toNat_cut, Xlen.toNat_cut]; rfl
  case srl => rw [aluSrl_eq, Xlen.toNat_cut, Xlen.toNat_cut]; rfl
  case sra => rw [aluSra_eq, Xlen.toNat_cut, Xlen.toInt_cut]; rfl

/-! ### Immediates -/

theorem Xlen.toInt_cut_immI (x : Xlen) (imm : BitVec 12) : (Xlen.cut x (immI imm)).toInt = imm.toInt := by
  rw [Xlen.toInt_cut, immI, Xlen.signed_sext x imm (by decide)]

theorem State.toNat_cut_immI (s : State) (imm : BitVec 12) :
    (Xlen.cut s.xlen (immI imm)).toNat = s.immU imm := by
  rw [Xlen.toNat_cut, immI, State.unsigned_sext s imm (by decide)]

theorem Xlen.toNat_cut_zext (x : Xlen) {w : Nat} (v : BitVec w) (hw : w ≤ 32) :
    (Xlen.cut x (zext v)).toNat = v.toNat := by
  rw [Xlen.toNat_cut, Xlen.unsigned_zext x v hw]

theorem toInt_immU (upimm : BitVec 20) : (immU upimm).toInt = upimm.toInt * 4096 := by
  rw [immU, sext, BitVec.toInt_signExtend_of_le (by decide), BitVec.toInt_append_zero, Int.mul_comm]
  rfl

/-- An address relative to the instruction, as an integer. -/
theorem State.holdsInt_pcRel (s : State) (off : Word) :
    HoldsInt s.xlen (s.pcRel off) (s.pc.toNat + off.toInt) := by
  rw [HoldsInt, State.pcRel, Xlen.toNat_narrow_add, Xlen.unsigned_eq, natCast_mod_two_pow,
    Int.emod_add_emod]

section
variable {s : State} {i : Instr} {rd rs1 : Reg} {ilen w : Nat} {shamt : BitVec w}
  (hw : w ≤ 32) (hlt : shamt.toNat < s.xlen.bits)
include hw hlt

/-- A shift by an immediate that is below `XLEN`, of either width of immediate. -/
theorem Xlen.toNat_cut_zext_mod : (Xlen.cut s.xlen (zext shamt)).toNat % s.xlen.bits = shamt.toNat := by
  rw [Xlen.toNat_cut_zext _ _ hw, Nat.mod_eq_of_lt hlt]

theorem RunsX.of_shiftLeft (hexec : exec i s = .next (s.aluImm aluSll rd rs1 (zext shamt) ilen)) :
    RunsX s i rd ilen (s.ux rs1 * 2 ^ shamt.toNat : Nat) :=
  .of_aluImm hexec (by rw [aluSll_eq, Xlen.toNat_cut, Xlen.toNat_cut_zext_mod hw hlt]; rfl)

theorem RunsX.of_shiftRight (hexec : exec i s = .next (s.aluImm aluSrl rd rs1 (zext shamt) ilen)) :
    RunsX s i rd ilen (s.ux rs1 / 2 ^ shamt.toNat : Nat) :=
  .of_aluImm hexec (by rw [aluSrl_eq, Xlen.toNat_cut, Xlen.toNat_cut_zext_mod hw hlt]; rfl)

theorem RunsX.of_shiftRightArith (hexec : exec i s = .next (s.aluImm aluSra rd rs1 (zext shamt) ilen)) :
    RunsX s i rd ilen (s.sx rs1 / 2 ^ shamt.toNat) :=
  .of_aluImm hexec (by rw [aluSra_eq, Xlen.toInt_cut, Xlen.toNat_cut_zext_mod hw hlt]; rfl)

end

theorem shamtFits_of_lt {x : Xlen} {shamt : BitVec 6} (hlt : shamt.toNat < x.bits) :
    shamtFits x shamt = true := by
  cases x
  · exact decide_eq_true hlt
  · rfl

/-- The shift amounts of a machine are those below its `XLEN`. -/
theorem shift_wf {s : State} {shamt : BitVec 6} (hlt : shamt.toNat < s.xlen.bits) (rd rs1 : Reg) :
    Instr.wf s.cfg.isa (.slli rd rs1 shamt) = true ∧ Instr.wf s.cfg.isa (.srli rd rs1 shamt) = true ∧
    Instr.wf s.cfg.isa (.srai rd rs1 shamt) = true := by
  have hshamt : shamtFits s.cfg.isa.xlen shamt = true := shamtFits_of_lt hlt
  simp [Instr.wf, Instr.illFormed, IllFormed.unless, hshamt]

/-- Settles O35: the exact result of each operation, on the immediate as an operand. -/
theorem immediateArithmetic : Obligations.ImmediateArithmetic := by
  intro s rd rs1 imm shamt upimm
  refine ⟨.of_aluImm rfl ?addi, .of_aluImm rfl ?slti, .of_aluImm rfl ?sltiu, .of_aluImm rfl ?xori,
    .of_aluImm rfl ?ori, .of_aluImm rfl ?andi, fun hlt => ?shifts,
    .of_setRd rfl (holdsInt_narrow_of_toInt (toInt_immU upimm)), .of_setRd rfl ?auipc⟩
  case addi => rw [aluAdd_eq, Xlen.toInt_cut_immI, Xlen.toInt_cut]; rfl
  case slti => rw [aluSlt_eq, Xlen.toInt_cut_immI, Xlen.toInt_cut]; rfl
  case sltiu => rw [aluSltu_eq, State.toNat_cut_immI, Xlen.toNat_cut]; rfl
  case xori => rw [aluXor_eq, State.toNat_cut_immI, Xlen.toNat_cut]; rfl
  case ori => rw [aluOr_eq, State.toNat_cut_immI, Xlen.toNat_cut]; rfl
  case andi => rw [aluAnd_eq, State.toNat_cut_immI, Xlen.toNat_cut]; rfl
  case shifts =>
    obtain ⟨hslli, hsrli, hsrai⟩ := shift_wf hlt rd rs1
    exact ⟨.of_shiftLeft (by decide) hlt (congrArg _ (State.listed_of_wf _ hslli)),
      .of_shiftRight (by decide) hlt (congrArg _ (State.listed_of_wf _ hsrli)),
      .of_shiftRightArith (by decide) hlt (congrArg _ (State.listed_of_wf _ hsrai))⟩
  case auipc =>
    rw [State.pcRel, Xlen.narrow_narrow, ← toInt_immU]
    exact s.holdsInt_pcRel _

/-! ## Table B.2 -/

/-- The two's-complement reading is that of the residue as a value. -/
theorem signedOf_eq_toInt {w : Nat} (hw : 0 < w) (n : Int) : signedOf w n = (BitVec.ofInt w n).toInt := by
  obtain ⟨k, rfl⟩ : ∃ k, w = k + 1 := ⟨w - 1, by omega⟩
  have hhalf : (((2 ^ (k + 1) : Nat) : Int) + 1) / 2 = 2 ^ k := by
    rw [Nat.pow_succ]
    push_cast
    omega
  rw [BitVec.toInt_ofInt, Int.bmod_def, hhalf, signedOf, Nat.add_sub_cancel]
  norm_cast

section
variable {s : State} {i : Instr} {rd : Reg} {ilen : Nat}

/-- An instruction that puts a 32-bit value, extended by sign, in `x[rd]`. -/
theorem RunsX.of_sext {w : Nat} {v : BitVec w} (hw : w ≤ 64)
    (hexec : exec i s = .next (s.setRd rd (sext v) ilen)) : RunsX s i rd ilen v.toInt :=
  .of_setRd hexec (holdsInt_narrow_of_toInt (BitVec.toInt_signExtend_of_le hw))

/-- An instruction of Table B.2, by the exact result of the operation at 32 bits. -/
theorem RunsX.of_aluWord {op : (w : Nat) → BitVec w → BitVec w → BitVec w} {rs1 : Reg} {v : Word} {n : Int}
    (hexec : exec i s = .next (s.aluWord op rd rs1 v ilen))
    (hop : op 32 (low32 (s.readX rs1)) (low32 v) = BitVec.ofInt 32 n) :
    RunsX s i rd ilen (signedOf 32 n) := by
  rw [signedOf_eq_toInt (by decide), ← hop]
  exact .of_sext (by decide) hexec

/-- Shifting right arithmetically keeps a signed value in range. -/
theorem RunsX.of_aluWord_sra {rs1 : Reg} {v : Word}
    (hexec : exec i s = .next (s.aluWord aluSra rd rs1 v ilen)) :
    RunsX s i rd ilen (s.wx rs1 / 2 ^ ((low32 v).toNat % 32)) := by
  have hvalue : (aluSra 32 (low32 (s.readX rs1)) (low32 v)).toInt =
      s.wx rs1 / 2 ^ ((low32 v).toNat % 32) := by
    rw [aluSra, BitVec.toInt_sshiftRight, Int.shiftRight_eq_div_pow, State.wx]
    norm_cast
  rw [← hvalue]
  exact .of_sext (by decide) hexec

theorem low32_sext {w : Nat} (v : BitVec w) (hw : w ≤ 32) : (low32 (sext v)).toInt = v.toInt :=
  Xlen.signed_sext .x32 v hw

theorem low32_zext {w : Nat} (v : BitVec w) (hw : w ≤ 32) : (low32 (zext v)).toNat = v.toNat :=
  Xlen.unsigned_zext .x32 v hw

end

/-- The rows of Table B.2 are those of a 64-bit machine. -/
theorem State.listed_of_needsXlen64 {s : State} (hx : s.xlen = .x64) {i : Instr} (k : State → State)
    (hneeds : i.illFormed s.cfg.isa = IllFormed.unless (s.cfg.isa.xlen == .x64) .needsXlen64) :
    s.listed i k = k s := by
  have hisa : s.cfg.isa.xlen = .x64 := hx
  exact State.listed_of_wf k (by simp [Instr.wf, hneeds, IllFormed.unless, hisa])

/-- Settles O36: each works on the low 32 bits and extends the result by sign. -/
theorem wordArithmetic : Obligations.WordArithmetic := by
  intro s rd rs1 rs2 imm shamt hx
  have hshamt : (low32 (zext shamt)).toNat % 32 = shamt.toNat := by
    rw [low32_zext _ (by decide)]
    exact Nat.mod_eq_of_lt shamt.isLt
  refine ⟨.of_aluWord (congrArg _ (State.listed_of_needsXlen64 hx _ rfl)) ?addiw,
    .of_aluWord (congrArg _ (State.listed_of_needsXlen64 hx _ rfl)) ?slliw,
    .of_aluWord (congrArg _ (State.listed_of_needsXlen64 hx _ rfl)) ?srliw, ?sraiw,
    .of_aluWord (congrArg _ (State.listed_of_needsXlen64 hx _ rfl)) (aluAdd_eq _ _),
    .of_aluWord (congrArg _ (State.listed_of_needsXlen64 hx _ rfl)) (aluSub_eq _ _),
    .of_aluWord (congrArg _ (State.listed_of_needsXlen64 hx _ rfl)) (aluSll_eq _ _),
    .of_aluWord (congrArg _ (State.listed_of_needsXlen64 hx _ rfl)) (aluSrl_eq _ _),
    .of_aluWord_sra (congrArg _ (State.listed_of_needsXlen64 hx _ rfl))⟩
  case addiw => rw [aluAdd_eq, immI, low32_sext imm (by decide)]; rfl
  case slliw => rw [aluSll_eq, hshamt]; rfl
  case srliw => rw [aluSrl_eq, hshamt]; rfl
  case sraiw =>
    have hexec : exec (.sraiw rd rs1 shamt) s = .next (s.aluWord aluSra rd rs1 (zext shamt) 4) :=
      congrArg _ (State.listed_of_needsXlen64 hx _ rfl)
    have h := RunsX.of_aluWord_sra hexec
    rwa [hshamt] at h

end Sys2Proof.Machine
end


section
/-! Multiplication and division (`spec/43_rvm.md`), and the pairs of instructions that build a 32-bit
value (`spec/45_pseudo.md` R393, R418, R423). -/

namespace Sys2Proof.Machine

/-- A row whose only condition is one that the machine meets. -/
theorem State.listed_of_unless {s : State} {i : Instr} {ok : Bool} {why : IllFormed} (hok : ok = true)
    (k : State → State) (hneeds : i.illFormed s.cfg.isa = IllFormed.unless ok why) : s.listed i k = k s :=
  State.listed_of_wf k (by simp [Instr.wf, hneeds, IllFormed.unless, hok])

/-! ## Multiplication -/

/-- Settles O37: the definitions of the four operations are the exact products. -/
theorem multiplication : Obligations.Multiplication := by
  intro s rd rs1 rs2 hM
  refine ⟨.of_aluImm (congrArg _ (State.listed_of_unless hM _ rfl)) ?mul,
    .of_aluImm (congrArg _ (State.listed_of_unless hM _ rfl)) ?mulh,
    .of_aluImm (congrArg _ (State.listed_of_unless hM _ rfl)) ?mulhsu,
    .of_aluImm (congrArg _ (State.listed_of_unless hM _ rfl)) ?mulhu⟩
  case mul => rw [aluMul, Xlen.toNat_cut, Xlen.toNat_cut]; rfl
  case mulh => rw [aluMulh, Xlen.toInt_cut, Xlen.toInt_cut]; rfl
  case mulhsu => rw [aluMulhsu, Xlen.toInt_cut, Xlen.toNat_cut]; rfl
  case mulhu => rw [aluMulhu, Xlen.toNat_cut, Xlen.toNat_cut]; rfl

/-! ## Division -/

theorem holdsInt_cornerWord (x : Xlen) (c : CornerResult) (v : Word) :
    HoldsInt x (x.narrow (cornerWord c v)) (cornerInt c (x.unsigned v)) := by
  cases c with
  | dividend => exact holdsInt_narrow_unsigned x v
  | value w => exact holdsInt_narrow_of_toNat rfl

theorem HoldsInt.congr {x : Xlen} {v : Word} {n m : Int} (h : HoldsInt x v n)
    (hnm : n % 2 ^ x.bits = m % 2 ^ x.bits) : HoldsInt x v m := by
  rw [HoldsInt] at *
  rw [h, hnm]

theorem RunsX.congr {s : State} {i : Instr} {rd : Reg} {ilen : Nat} {n m : Int} (h : RunsX s i rd ilen n)
    (hnm : n % 2 ^ s.xlen.bits = m % 2 ^ s.xlen.bits) : RunsX s i rd ilen m := by
  obtain ⟨t, hexec, honly, hvalue, hpc⟩ := h
  exact ⟨t, hexec, honly, fun hrd => (hvalue hrd).congr hnm, hpc⟩

section
variable {s : State} {i : Instr} {rd rs1 rs2 : Reg} {zero ovf : CornerResult}
  {op : (w : Nat) → BitVec w → BitVec w → BitVec w} {n : Int}

theorem State.divOverflows_iff :
    s.divOverflows (s.readX rs1) (s.readX rs2) = true ↔ s.Overflows rs1 rs2 := by
  simp [State.divOverflows, State.Overflows, State.sx]

/-- A divisor that reads as -1 is not zero. -/
theorem State.Overflows.ux_ne_zero (h : s.Overflows rs1 rs2) : s.ux rs2 ≠ 0 := by
  obtain ⟨-, hminus⟩ := h
  intro hzero
  have hread := Xlen.unsigned_eq_signed_emod s.xlen (s.readX rs2)
  rw [show s.xlen.unsigned (s.readX rs2) = 0 from hzero,
    show s.xlen.signed (s.readX rs2) = -1 from hminus] at hread
  cases hx : s.xlen <;> rw [hx] at hread <;> exact absurd hread (by decide)

/-! ### The three classes of a signed operation -/

theorem RunsX.of_divSigned_zero
    (hexec : exec i s = .next (s.setRd rd (s.divSigned op zero ovf (s.readX rs1) (s.readX rs2)) 4))
    (hzero : s.ux rs2 = 0) : RunsX s i rd 4 (cornerInt zero (s.ux rs1)) := by
  refine .of_setRd hexec ?_
  rw [State.divSigned, ← State.ux, if_pos hzero]
  exact holdsInt_cornerWord _ _ _

theorem RunsX.of_divSigned_overflow
    (hexec : exec i s = .next (s.setRd rd (s.divSigned op zero ovf (s.readX rs1) (s.readX rs2)) 4))
    (hovf : s.Overflows rs1 rs2) : RunsX s i rd 4 (cornerInt ovf (s.ux rs1)) := by
  refine .of_setRd hexec ?_
  rw [State.divSigned, ← State.ux, if_neg hovf.ux_ne_zero, if_pos (State.divOverflows_iff.2 hovf)]
  exact holdsInt_cornerWord _ _ _

theorem RunsX.of_divSigned
    (hexec : exec i s = .next (s.setRd rd (s.divSigned op zero ovf (s.readX rs1) (s.readX rs2)) 4))
    (hzero : s.ux rs2 ≠ 0) (hovf : ¬s.Overflows rs1 rs2)
    (hop : op s.xlen.bits (Xlen.cut s.xlen (s.readX rs1)) (Xlen.cut s.xlen (s.readX rs2)) =
      BitVec.ofInt s.xlen.bits n) : RunsX s i rd 4 n := by
  refine .of_setRd hexec ?_
  rw [State.divSigned, ← State.ux, if_neg hzero, if_neg (mt State.divOverflows_iff.1 hovf)]
  exact holdsInt_lift2 hop

/-! ### The two classes of an unsigned operation -/

theorem RunsX.of_divUnsigned_zero
    (hexec : exec i s = .next (s.setRd rd (s.divUnsigned op zero (s.readX rs1) (s.readX rs2)) 4))
    (hzero : s.ux rs2 = 0) : RunsX s i rd 4 (cornerInt zero (s.ux rs1)) := by
  refine .of_setRd hexec ?_
  rw [State.divUnsigned, ← State.ux, if_pos hzero]
  exact holdsInt_cornerWord _ _ _

theorem RunsX.of_divUnsigned
    (hexec : exec i s = .next (s.setRd rd (s.divUnsigned op zero (s.readX rs1) (s.readX rs2)) 4))
    (hzero : s.ux rs2 ≠ 0)
    (hop : op s.xlen.bits (Xlen.cut s.xlen (s.readX rs1)) (Xlen.cut s.xlen (s.readX rs2)) =
      BitVec.ofInt s.xlen.bits n) : RunsX s i rd 4 n := by
  refine .of_setRd hexec ?_
  rw [State.divUnsigned, ← State.ux, if_neg hzero]
  exact holdsInt_lift2 hop

end

/-- All ones read as -1 modulo `2^XLEN`. -/
theorem allOnes_emod (x : Xlen) :
    ((BitVec.allOnes 64).toNat : Int) % 2 ^ x.bits = -1 % 2 ^ x.bits ∧
    ((BitVec.allOnes 64).toNat : Int) % 2 ^ x.bits = (2 ^ x.bits - 1) % 2 ^ x.bits := by
  cases x <;> decide

theorem State.ux_emod_eq_sx_emod (s : State) (r : Reg) :
    (s.ux r : Int) % 2 ^ s.xlen.bits = s.sx r % 2 ^ s.xlen.bits := by
  rw [State.ux, Xlen.unsigned_eq_signed_emod, Int.emod_emod]
  rfl

/-- Settles O38: the classes of the divisor, and the values of the reference `DIV_CORNERS`. -/
theorem division : Obligations.Division := by
  intro s rd rs1 rs2 hM
  have hdiv : exec (.div rd rs1 rs2) s = .next (s.setRd rd (s.divSigned aluDiv s.cfg.div.zeroQuot
      s.cfg.div.ovfQuot (s.readX rs1) (s.readX rs2)) 4) := congrArg _ (State.listed_of_unless hM _ rfl)
  have hdivu : exec (.divu rd rs1 rs2) s = .next (s.setRd rd (s.divUnsigned aluDivu s.cfg.div.zeroQuot
      (s.readX rs1) (s.readX rs2)) 4) := congrArg _ (State.listed_of_unless hM _ rfl)
  have hrem : exec (.rem rd rs1 rs2) s = .next (s.setRd rd (s.divSigned aluRem s.cfg.div.zeroRem
      s.cfg.div.ovfRem (s.readX rs1) (s.readX rs2)) 4) := congrArg _ (State.listed_of_unless hM _ rfl)
  have hremu : exec (.remu rd rs1 rs2) s = .next (s.setRd rd (s.divUnsigned aluRemu s.cfg.div.zeroRem
      (s.readX rs1) (s.readX rs2)) 4) := congrArg _ (State.listed_of_unless hM _ rfl)
  refine ⟨fun hzero => ⟨.of_divSigned_zero hdiv hzero, .of_divUnsigned_zero hdivu hzero,
      .of_divSigned_zero hrem hzero, .of_divUnsigned_zero hremu hzero⟩,
    fun hovf => ⟨.of_divSigned_overflow hdiv hovf, .of_divSigned_overflow hrem hovf⟩,
    fun hzero => ⟨.of_divUnsigned hdivu hzero ?divu, .of_divUnsigned hremu hzero ?remu⟩,
    fun hzero hovf => ⟨.of_divSigned hdiv hzero hovf ?div, .of_divSigned hrem hzero hovf ?rem⟩,
    fun href hzero => ?zeroReference, fun href hovf => ?overflowReference⟩
  case divu => rw [aluDivu, Xlen.toNat_cut, Xlen.toNat_cut]; rfl
  case remu => rw [aluRemu, Xlen.toNat_cut, Xlen.toNat_cut]; rfl
  case div => rw [aluDiv, Xlen.toInt_cut, Xlen.toInt_cut]; rfl
  case rem => rw [aluRem, Xlen.toInt_cut, Xlen.toInt_cut]; rfl
  case zeroReference =>
    rw [href] at hdiv hdivu hrem hremu
    obtain ⟨hminus, hmax⟩ := allOnes_emod s.xlen
    exact ⟨(RunsX.of_divSigned_zero hdiv hzero).congr hminus,
      (RunsX.of_divUnsigned_zero hdivu hzero).congr hmax,
      (RunsX.of_divSigned_zero hrem hzero).congr (s.ux_emod_eq_sx_emod rs1),
      RunsX.of_divUnsigned_zero hremu hzero⟩
  case overflowReference =>
    rw [href] at hdiv hrem
    refine ⟨(RunsX.of_divSigned_overflow hdiv hovf).congr ?_, RunsX.of_divSigned_overflow hrem hovf⟩
    obtain ⟨hmin, -⟩ := hovf
    rw [← hmin]
    exact s.ux_emod_eq_sx_emod rs1

/-! ## The pairs of `li` and `la` -/

/-- The value that the pair of a 32-bit value leaves: the upper part is extended by sign before the lower
is added. -/
def pairValue (v : BitVec 32) : Int :=
  if 0x7ffff800 ≤ v.toNat ∧ v.toNat ≤ 0x7fffffff then v.toNat - 2 ^ 32 else v.toInt

/-- The two immediates add up to the value of the pair. -/
theorem hi20_add_lo12_eq (v : BitVec 32) : (hi20 v).toInt * 4096 + (lo12 v).toInt = pairValue v := by
  have hlo := toNat_lo12 v
  have hhi := toNat_hi20 v
  have hv := v.isLt
  rw [pairValue, BitVec.toInt_eq_toNat_cond, BitVec.toInt_eq_toNat_cond, BitVec.toInt_eq_toNat_cond]
  omega

theorem low32_toNat (v : Word) : (low32 v).toNat = v.toNat % 2 ^ 32 := by
  rw [low32, BitVec.toNat_setWidth]

theorem pairValue_emod (v : BitVec 32) : pairValue v % 2 ^ 32 = v.toNat := by
  have hv := v.isLt
  rw [pairValue, BitVec.toInt_eq_toNat_cond]
  omega

/-- The low half of what a register of `XLEN` bits holds. -/
theorem HoldsInt.low32_emod {x : Xlen} {v : Word} {n : Int} (h : HoldsInt x v n) :
    ((low32 v).toNat : Int) = n % 2 ^ 32 := by
  have hdvd : (2 : Int) ^ 32 ∣ 2 ^ x.bits := by cases x <;> decide
  rw [low32_toNat, natCast_mod_two_pow, h, Int.emod_emod_of_dvd _ hdvd]

/-- An instruction that puts `n` in `x[rd]`, then `addi` to the same register. -/
theorem exists_pair {s : State} {i : Instr} {rd : Reg} {n : Int} (hrd : rd ≠ 0#5) (hi : RunsX s i rd 4 n)
    (imm : BitVec 12) :
    ∃ t u, exec i s = .next t ∧ exec (.addi rd rd imm) t = .next u ∧
      HoldsInt s.xlen (u.readX rd) (n + imm.toInt) := by
  obtain ⟨t, hexec, honly, hvalue, -⟩ := hi
  obtain ⟨haddi, -⟩ := immediateArithmetic t rd rd imm 0#6 0#20
  obtain ⟨u, hexec', -, hsum, -⟩ := haddi
  have hcfg : t.xlen = s.xlen := by rw [honly.fields]; rfl
  refine ⟨t, u, hexec, hexec', (hcfg ▸ hsum hrd).congr ?_⟩
  have hn : t.sx rd % 2 ^ s.xlen.bits = n % 2 ^ s.xlen.bits := by
    rw [← hcfg, ← t.ux_emod_eq_sx_emod, State.ux, Xlen.unsigned_eq, natCast_mod_two_pow,
      Int.emod_emod, hcfg, hvalue hrd, Int.emod_emod]
  rw [Int.add_emod, hn, ← Int.add_emod]

/-- Settles O44: the first instruction leaves the upper part, and the second adds the lower. -/
theorem immediatePairs : Obligations.ImmediatePairs := by
  intro s rd v hrd value
  obtain ⟨-, -, -, -, -, -, -, hlui, hauipc⟩ := immediateArithmetic s rd rd 0#12 0#6 (hi20 v)
  refine ⟨?li, ?la⟩
  case li =>
    obtain ⟨t, u, hexec, hexec', hsum⟩ := exists_pair hrd hlui (lo12 v)
    rw [hi20_add_lo12_eq] at hsum
    refine ⟨t, u, hexec, hexec', BitVec.eq_of_toNat_eq ?_, hsum⟩
    have hlow := hsum.low32_emod
    rw [pairValue_emod] at hlow
    exact_mod_cast hlow
  case la =>
    obtain ⟨t, u, hexec, hexec', hsum⟩ := exists_pair hrd hauipc (lo12 v)
    rw [Int.add_assoc, hi20_add_lo12_eq] at hsum
    refine ⟨t, u, hexec, hexec', BitVec.eq_of_toNat_eq ?_, hsum⟩
    have hlow := hsum.low32_emod
    rw [Int.add_emod, pairValue_emod] at hlow
    rw [BitVec.toNat_add, low32_toNat s.pc]
    omega

end Sys2Proof.Machine
end


section
/-! Jumps and branches, and the 16-bit forms of arithmetic (`spec/10_state.md` R35 to R37,
`spec/40_rv32i.md` R181 to R188, `spec/44_rvc.md`). -/

namespace Sys2Proof.Machine

/-! ## Transfers -/

section
variable {s : State} {i : Instr} {target : Word} {n : Int}

/-- The alignment check, on the target as an integer. -/
theorem pcAligned_iff_emod {isa : Isa} {v : Word} (hv : (v.toNat : Int) = n) :
    isa.pcAligned v = true ↔ n % isa.ialignBytes = 0 := by
  rw [Isa.pcAligned_iff, ← hv]
  norm_cast

theorem ofInt_of_toNat_eq {v : Word} (hv : (v.toNat : Int) = n) : BitVec.ofInt 64 n = v := by
  rw [← hv, ← eq_ofInt_toNat]

theorem State.transfer_of_aligned (k : State → State) (hv : ((s.xlen.narrow target).toNat : Int) = n)
    (hn : n % s.cfg.isa.ialignBytes = 0) : s.transfer target k = (k s).setPc target := by
  rw [State.transfer, if_pos ((pcAligned_iff_emod hv).2 hn)]

theorem State.transfer_of_misaligned (k : State → State)
    (hv : ((s.xlen.narrow target).toNat : Int) = n) (hn : ¬n % s.cfg.isa.ialignBytes = 0) :
    s.transfer target k = s.raise .instructionAddressMisaligned (BitVec.ofInt 64 n) := by
  rw [State.transfer, if_neg (mt (pcAligned_iff_emod hv).1 hn), ofInt_of_toNat_eq hv]

theorem Jumps.of_transfer {off : Int} (hexec : exec i s = .next (s.transfer target fun s => s))
    (hv : ((s.xlen.narrow target).toNat : Int) = (s.pc.toNat + off) % 2 ^ s.xlen.bits) :
    Jumps s i off := by
  simp only [Jumps]
  split
  next hn =>
    rw [State.transfer_of_aligned _ hv hn] at hexec
    exact ⟨_, hexec, ⟨rfl, fun _ => rfl⟩, hv⟩
  next hn => rw [Raises, hexec, State.transfer_of_misaligned _ hv hn]

theorem JumpsLinking.of_jumpLink {rd : Reg} {ilen : Nat}
    (hexec : exec i s = .next (s.jumpLink rd target ilen))
    (hv : ((s.xlen.narrow target).toNat : Int) = n) : JumpsLinking s i rd n ilen := by
  rw [State.jumpLink] at hexec
  rw [JumpsLinking]
  split
  next hn =>
    rw [State.transfer_of_aligned _ hv hn] at hexec
    refine ⟨_, hexec, OnlyX.writeX_setPc s rd _ _, ?_, fun hrd => ?_⟩
    · rw [State.setPc_pc, State.writeX_xlen, hv]
    · have hlink : (((s.writeX rd (s.nextPc ilen)).setPc target).readX rd) = s.nextPc ilen :=
        (s.readX_writeX_self _ hrd).trans (s.narrow_nextPc ilen)
      rw [hlink, HoldsInt, State.toNat_nextPc, natCast_mod_two_pow, Int.natCast_add]
  next hn => rw [Raises, hexec, State.transfer_of_misaligned _ hv hn]

/-- The target of a jump relative to the instruction. -/
theorem State.toNat_narrow_pcRel (s : State) {off : Word} (hoff : off.toInt = n) :
    ((s.xlen.narrow (s.pcRel off)).toNat : Int) = (s.pc.toNat + n) % 2 ^ s.xlen.bits := by
  rw [State.pcRel, Xlen.narrow_narrow, ← hoff]
  exact s.holdsInt_pcRel off

theorem Branches.of_branch {cond : Prop} {off : Word} {ilen : Nat} {taken : Bool}
    (hexec : exec i s = .next (s.branch taken (s.pcRel off) ilen)) (hcond : taken = true ↔ cond)
    (hoff : off.toInt = n) : Branches s i cond n ilen := by
  refine ⟨fun hc => ?_, fun hc => ?_⟩
  · rw [hcond.2 hc] at hexec
    exact .of_transfer hexec (s.toNat_narrow_pcRel hoff)
  · rw [eq_false_of_ne_true (mt hcond.1 hc)] at hexec
    exact ⟨_, hexec, ⟨rfl, fun _ => rfl⟩, State.pcAdvanced_advance ilen rfl rfl⟩

end

/-! ## Comparisons and offsets -/

section
variable (x : Xlen) (a b : Word)

theorem Xlen.cmpEq_iff : x.cmp cmpEq a b = true ↔ x.unsigned a = x.unsigned b := by
  rw [Xlen.cmp_eq, cmpEq, beq_iff_eq, ← BitVec.toNat_inj, Xlen.toNat_cut, Xlen.toNat_cut]

theorem Xlen.cmpNe_iff : x.cmp cmpNe a b = true ↔ x.unsigned a ≠ x.unsigned b := by
  rw [Xlen.cmp_eq, cmpNe, bne_iff_ne, ne_eq, ← BitVec.toNat_inj, Xlen.toNat_cut, Xlen.toNat_cut]

theorem Xlen.cmpLt_iff : x.cmp cmpLt a b = true ↔ x.signed a < x.signed b := by
  rw [Xlen.cmp_eq, cmpLt, decide_eq_true_iff, Xlen.toInt_cut, Xlen.toInt_cut]

theorem Xlen.cmpGe_iff : x.cmp cmpGe a b = true ↔ x.signed a ≥ x.signed b := by
  rw [Xlen.cmp_eq, cmpGe, decide_eq_true_iff, Xlen.toInt_cut, Xlen.toInt_cut]

theorem Xlen.cmpLtu_iff : x.cmp cmpLtu a b = true ↔ x.unsigned a < x.unsigned b := by
  rw [Xlen.cmp_eq, cmpLtu, decide_eq_true_iff, Xlen.toNat_cut, Xlen.toNat_cut]

theorem Xlen.cmpGeu_iff : x.cmp cmpGeu a b = true ↔ x.unsigned a ≥ x.unsigned b := by
  rw [Xlen.cmp_eq, cmpGeu, decide_eq_true_iff, Xlen.toNat_cut, Xlen.toNat_cut]

end

/-- An unscaled field, scaled and extended by sign. -/
theorem toInt_sext_append {w : Nat} (v : BitVec w) (k : Nat) (hw : w + k ≤ 64) :
    (sext (v ++ 0#k)).toInt = 2 ^ k * v.toInt := by
  rw [sext, BitVec.toInt_signExtend_of_le hw, BitVec.toInt_append_zero]

/-- Settles O41: the comparison decides the condition, and a taken branch is a jump. -/
theorem conditionalBranches : Obligations.ConditionalBranches := by
  intro s rs1 rs2 imm
  have hoff : (immB imm).toInt = 2 * imm.toInt := toInt_sext_append imm 1 (by decide)
  exact ⟨.of_branch rfl (Xlen.cmpEq_iff _ _ _) hoff, .of_branch rfl (Xlen.cmpNe_iff _ _ _) hoff,
    .of_branch rfl (Xlen.cmpLt_iff _ _ _) hoff, .of_branch rfl (Xlen.cmpGe_iff _ _ _) hoff,
    .of_branch rfl (Xlen.cmpLtu_iff _ _ _) hoff, .of_branch rfl (Xlen.cmpGeu_iff _ _ _) hoff⟩

/-- Clearing bit 0 of an address of `XLEN` bits. -/
theorem State.toNat_narrow_indirect (s : State) (rs1 : Reg) (off : Word) :
    ((s.xlen.narrow (s.indirect rs1 off)).toNat : Int) =
      (s.ux rs1 + off.toInt) % 2 ^ s.xlen.bits / 2 * 2 := by
  have hea : s.xlen.narrow (s.ea rs1 off) = s.ea rs1 off := Xlen.narrow_narrow _ _
  have hle : (s.ea rs1 off &&& ~~~1#64).toNat ≤ (s.ea rs1 off).toNat := by
    rw [toNat_and_not_one]
    exact Nat.div_mul_le_self _ _
  rw [State.indirect, Xlen.narrow_eq_self_of_le hea hle, toNat_and_not_one, ← State.toNat_ea]
  norm_cast

/-- Settles O42: the link is written where the target is aligned. -/
theorem jumpAndLink : Obligations.JumpAndLink := by
  intro s rd rs1 imm off
  refine ⟨.of_jumpLink rfl (s.toNat_narrow_pcRel (toInt_sext_append off 1 (by decide))),
    .of_jumpLink rfl ?jalr⟩
  case jalr => rw [s.toNat_narrow_indirect, toInt_immI]

/-! ## The jumps and branches of Table B.6 -/

/-- A jump to a register that holds an address of `XLEN` bits. -/
theorem State.toNat_narrow_indirect_zero (s : State) (rs1 : Reg) :
    ((s.xlen.narrow (s.indirect rs1 0#64)).toNat : Int) = s.ux rs1 / 2 * 2 := by
  have hlt : (s.ux rs1 : Int) < 2 ^ s.xlen.bits := by
    rw [State.ux, Xlen.unsigned_eq]
    exact_mod_cast Nat.mod_lt _ (Xlen.two_pow_bits_pos _)
  rw [s.toNat_narrow_indirect, BitVec.toInt_zero, Int.add_zero,
    Int.emod_eq_of_lt (Int.natCast_nonneg _) hlt]

/-- A jump without a link is one that links `x0`. -/
theorem State.transfer_eq_jumpLink_zero (s : State) (target : Word) (ilen : Nat) :
    s.transfer target (fun t => t) = s.jumpLink 0#5 target ilen := by
  simp only [State.jumpLink, State.writeX_zero]

theorem cJr_wf {isa : Isa} (hC : isa.hasC = true) {rs1 : Reg} (hrs1 : rs1 ≠ 0#5) :
    Instr.wf isa (.cJr rs1) = true ∧ Instr.wf isa (.cJalr rs1) = true := by
  simp [Instr.wf, Instr.illFormed, IllFormed.unless, hC, hrs1]

/-- Settles O60: each is a branch or a jump of Table B.1 with its own length. -/
theorem compressedControl : Obligations.CompressedControl := by
  intro s off boff cs rs1 hC
  have hj : (immCj off).toInt = 2 * off.toInt := toInt_sext_append off 1 (by decide)
  have hb : (immCb boff).toInt = 2 * boff.toInt := toInt_sext_append boff 1 (by decide)
  have hx0 : s.xlen.unsigned (s.readX 0#5) = 0 := by
    rw [State.readX_zero, Xlen.unsigned_eq]
    exact Nat.zero_mod _
  have hzero : s.xlen.cmp cmpEq (s.readX cs.reg) (s.readX 0#5) = true ↔ s.ux cs.reg = 0 := by
    rw [Xlen.cmpEq_iff, hx0]
    rfl
  have hnonzero : s.xlen.cmp cmpNe (s.readX cs.reg) (s.readX 0#5) = true ↔ s.ux cs.reg ≠ 0 := by
    rw [Xlen.cmpNe_iff, hx0]
    rfl
  refine ⟨.of_jumpLink (congrArg _ (State.listed_of_unless hC _ rfl)) (s.toNat_narrow_pcRel hj),
    .of_transfer (congrArg _ (State.listed_of_unless hC _ rfl)) (s.toNat_narrow_pcRel hj),
    .of_branch (congrArg _ (State.listed_of_unless hC _ rfl)) hzero hb,
    .of_branch (congrArg _ (State.listed_of_unless hC _ rfl)) hnonzero hb, fun hrs1 => ?jr, fun hrs1 => ?jalr⟩
  case jr =>
    have hexec : exec (.cJr rs1) s = .next (s.transfer (s.indirect rs1 0#64) fun t => t) :=
      congrArg _ (State.listed_of_wf _ (cJr_wf hC hrs1).1)
    rw [State.transfer_eq_jumpLink_zero s _ 2] at hexec
    exact .of_jumpLink hexec (s.toNat_narrow_indirect_zero rs1)
  case jalr =>
    exact .of_jumpLink (congrArg _ (State.listed_of_wf _ (cJr_wf hC hrs1).2))
      (s.toNat_narrow_indirect_zero rs1)

/-! ## The arithmetic of Table B.6 -/

/-- A short value extended by zeros is not negative. -/
theorem Xlen.toInt_cut_zext (x : Xlen) {w : Nat} (v : BitVec w) (hw : w < 32) :
    (Xlen.cut x (zext v)).toInt = v.toNat := by
  have hslot : v.toNat < 2 ^ 31 :=
    Nat.lt_of_lt_of_le v.isLt (Nat.pow_le_pow_right (by decide) (by omega))
  have hbits : 2 * 2 ^ 31 ≤ 2 ^ x.bits := by cases x <;> decide
  have hnat := Xlen.toNat_cut_zext x v (Nat.le_of_lt hw)
  rw [BitVec.toInt_eq_toNat_of_lt (by rw [hnat]; omega), hnat]

theorem toNat_append_zero {w : Nat} (v : BitVec w) (k : Nat) : (v ++ 0#k).toNat = 2 ^ k * v.toNat := by
  rw [BitVec.toNat_append]
  simp [Nat.shiftLeft_eq, Nat.mul_comm]

theorem CReg.toNat_reg (r : CReg) : r.reg.toNat = 8 + r.toNat := by
  revert r
  decide

section
variable {isa : Isa} (hC : isa.hasC = true)
include hC

/-- The side conditions of the rows of Table B.6 that have one. -/
theorem cAddi4spn_wf (rd : CReg) {u : BitVec 8} (hu : u ≠ 0#8) : Instr.wf isa (.cAddi4spn rd u) = true := by
  simp [Instr.wf, Instr.illFormed, IllFormed.unless, hC, hu]

theorem cAddi_wf {rd : Reg} {imm : BitVec 6} (h : rd ≠ 0#5 ∨ imm ≠ 0#6) :
    Instr.wf isa (.cAddi rd imm) = true := by
  have hnop : (!(rd == 0#5 && imm == 0#6)) = true := by
    rw [Bool.not_and, Bool.or_eq_true]
    simpa using h
  simp [Instr.wf, Instr.illFormed, IllFormed.unless, hC, hnop]

theorem cLui_wf {rd : Reg} {imm : BitVec 6} (hrd : rd ≠ 2#5) (himm : imm ≠ 0#6) :
    Instr.wf isa (.cLui rd imm) = true := by
  simp [Instr.wf, Instr.illFormed, IllFormed.unless, hC, hrd, himm]

theorem cAddi16sp_wf {imm : BitVec 6} (himm : imm ≠ 0#6) : Instr.wf isa (.cAddi16sp imm) = true := by
  simp [Instr.wf, Instr.illFormed, IllFormed.unless, hC, himm]

theorem cMv_wf (rd : Reg) {rs2 : Reg} (hrs2 : rs2 ≠ 0#5) :
    Instr.wf isa (.cMv rd rs2) = true ∧ Instr.wf isa (.cAdd rd rs2) = true := by
  simp [Instr.wf, Instr.illFormed, IllFormed.unless, hC, hrs2]

end

/-- Settles O58: each is an operation of Table B.1 on its own operands. -/
theorem compressedArithmetic : Obligations.CompressedArithmetic := by
  intro s rd rs2 cd cs imm u shamt hC
  have hlt : shamt.toNat < s.xlen.bits := by
    have hbits : 32 ≤ s.xlen.bits := by cases s.xlen <;> decide
    have hshamt := shamt.isLt
    omega
  have himm : (Xlen.cut s.xlen (immC6 imm)).toInt = imm.toInt := by
    rw [Xlen.toInt_cut, immC6, Xlen.signed_sext _ imm (by decide)]
  refine ⟨fun hu => .of_aluImm (congrArg _ (State.listed_of_wf _ (cAddi4spn_wf hC cd hu))) ?addi4spn,
    ⟨s.advance 2, congrArg _ (State.listed_of_unless hC _ rfl), ⟨rfl, fun _ => rfl⟩,
      State.pcAdvanced_advance 2 rfl rfl⟩,
    fun h => .of_aluImm (congrArg _ (State.listed_of_wf _ (cAddi_wf hC h))) ?addi,
    .of_sext (by decide) (congrArg _ (State.listed_of_unless hC _ rfl)),
    fun hrd h => .of_setRd (congrArg _ (State.listed_of_wf _ (cLui_wf hC hrd h))) ?lui,
    fun h => .of_aluImm (congrArg _ (State.listed_of_wf _ (cAddi16sp_wf hC h))) ?addi16sp,
    .of_shiftRight (by decide) hlt (congrArg _ (State.listed_of_unless hC _ rfl)),
    .of_shiftRightArith (by decide) hlt (congrArg _ (State.listed_of_unless hC _ rfl)),
    .of_aluImm (congrArg _ (State.listed_of_unless hC _ rfl)) ?andi,
    .of_aluImm (congrArg _ (State.listed_of_unless hC _ rfl)) ?sub,
    .of_aluImm (congrArg _ (State.listed_of_unless hC _ rfl)) ?xor,
    .of_aluImm (congrArg _ (State.listed_of_unless hC _ rfl)) ?or,
    .of_aluImm (congrArg _ (State.listed_of_unless hC _ rfl)) ?and,
    .of_shiftLeft (by decide) hlt (congrArg _ (State.listed_of_unless hC _ rfl)),
    fun h => .of_setRd (congrArg _ (State.listed_of_wf _ (cMv_wf hC rd h).1)) (holdsInt_narrow_unsigned _ _),
    fun h => .of_aluImm (congrArg _ (State.listed_of_wf _ (cMv_wf hC rd h).2)) ?add, CReg.toNat_reg cd⟩
  case addi4spn =>
    rw [aluAdd_eq, immCiw, Xlen.toInt_cut_zext _ _ (by decide), toNat_append_zero, Xlen.toInt_cut]
    norm_cast
  case addi => rw [aluAdd_eq, himm, Xlen.toInt_cut]; rfl
  case lui =>
    refine holdsInt_narrow_of_toInt ?_
    rw [immCLui, toInt_immU, BitVec.toInt_signExtend_of_le (by decide)]
  case addi16sp =>
    rw [aluAdd_eq, Xlen.toInt_cut, Xlen.toInt_cut, immC16sp, Xlen.signed_sext _ _ (by decide),
      BitVec.toInt_append_zero]
    rfl
  case andi =>
    rw [aluAnd_eq, Xlen.toNat_cut, Xlen.toNat_cut, immC6, State.unsigned_sext s imm (by decide)]
    rfl
  case sub => rw [aluSub_eq, Xlen.toInt_cut, Xlen.toInt_cut]; rfl
  case xor => rw [aluXor_eq, Xlen.toNat_cut, Xlen.toNat_cut]; rfl
  case or => rw [aluOr_eq, Xlen.toNat_cut, Xlen.toNat_cut]; rfl
  case and => rw [aluAnd_eq, Xlen.toNat_cut, Xlen.toNat_cut]; rfl
  case add => rw [aluAdd_eq, Xlen.toInt_cut, Xlen.toInt_cut]; rfl

end Sys2Proof.Machine
end


section
/-! Loads and stores: when they raise, and what they leave (`spec/20_memory.md` R72 to R82, R89,
`spec/40_rv32i.md` R151 to R169, `spec/42_rvfd.md` R232, R233, R258 to R267, `spec/44_rvc.md`). -/

namespace Sys2Proof.Machine

/-! ## When an access raises -/

section
variable {s : State} {ea : Word} {n : Nat}

theorem misaligned_iff : misaligned ea n = true ↔ ea.toNat % n ≠ 0 := by
  simp [misaligned]

theorem State.Aligned.not_raised (h : s.Aligned ea n) :
    ¬(misaligned ea n = true ∧ s.cfg.misaligned = .fault) := by
  rintro ⟨hmis, hfault⟩
  obtain hzero | hsplit := h
  · exact misaligned_iff.1 hmis hzero
  · cases hfault.symm.trans hsplit

theorem State.loadFault_of_misaligned (hfault : s.cfg.misaligned = .fault) (hmis : ea.toNat % n ≠ 0) :
    s.loadFault ea n = some .loadAddressMisaligned := by
  simp [State.loadFault, misaligned_iff.2 hmis, hfault]

theorem State.loadFault_of_unreadable (ha : s.Aligned ea n) (hr : ¬s.Readable ea n) :
    s.loadFault ea n = some .loadAccessFault := by
  obtain ⟨hmis, hfault, -⟩ | ⟨-, ⟨hread, -⟩ | ⟨-, hnone⟩⟩ := s.loadFault_cases ea n
  · exact absurd ⟨hmis, hfault⟩ ha.not_raised
  · exact absurd hread hr
  · exact hnone

theorem State.loadFault_of_readable (ha : s.Aligned ea n) (hr : s.Readable ea n) :
    s.loadFault ea n = none := by
  obtain ⟨hmis, hfault, -⟩ | ⟨-, ⟨-, hnone⟩ | ⟨⟨a, hmem, hno⟩, -⟩⟩ := s.loadFault_cases ea n
  · exact absurd ⟨hmis, hfault⟩ ha.not_raised
  · exact hnone
  · cases hno.symm.trans (hr a hmem)

theorem State.storeFault_of_misaligned (hfault : s.cfg.misaligned = .fault) (hmis : ea.toNat % n ≠ 0) :
    s.storeFault ea n = some .storeAddressMisaligned := by
  simp [State.storeFault, misaligned_iff.2 hmis, hfault]

theorem State.storeFault_of_unwritable (ha : s.Aligned ea n) (hw : ¬s.Writable ea n) :
    s.storeFault ea n = some .storeAccessFault := by
  obtain ⟨hmis, hfault, -⟩ | ⟨-, ⟨hwrite, -⟩ | ⟨-, hnone⟩⟩ := s.storeFault_cases ea n
  · exact absurd ⟨hmis, hfault⟩ ha.not_raised
  · exact absurd hwrite hw
  · exact hnone

theorem State.storeFault_of_writable (ha : s.Aligned ea n) (hw : s.Writable ea n) :
    s.storeFault ea n = none := by
  obtain ⟨hmis, hfault, -⟩ | ⟨-, ⟨-, hnone⟩ | ⟨⟨a, hmem, hno⟩, -⟩⟩ := s.storeFault_cases ea n
  · exact absurd ⟨hmis, hfault⟩ ha.not_raised
  · exact hnone
  · cases hno.symm.trans (hw a hmem)

theorem State.load_of_loadFault {e : Exc} (k : Word → State) (h : s.loadFault ea n = some e) :
    s.load ea n k = s.raise e ea := by
  simp only [State.load, h]

theorem State.load_of_readable (k : Word → State) (ha : s.Aligned ea n) (hr : s.Readable ea n) :
    s.load ea n k = k (s.mem.readLE (s.accessAddrs ea n)) := by
  simp only [State.load, State.loadFault_of_readable ha hr]

theorem State.store_of_storeFault {e : Exc} (v : Word) (ilen : Nat) (h : s.storeFault ea n = some e) :
    s.store ea n v ilen = (s.storePart ea n v).raise e ea := by
  simp only [State.store, h]

theorem State.store_of_writable (v : Word) (ilen : Nat) (ha : s.Aligned ea n) (hw : s.Writable ea n) :
    s.store ea n v ilen = (s.storeBytes (s.accessAddrs ea n) v).advance ilen := by
  simp only [State.store, State.storeFault_of_writable ha hw]

/-- A store that raises without a split access has written nothing. -/
theorem State.storePart_of_not_split (v : Word)
    (h : ea.toNat % n = 0 ∨ s.cfg.misaligned = .fault) : s.storePart ea n v = s := by
  obtain ⟨-, hnone⟩ | ⟨hmis, hsplit, -⟩ := s.storePart_cases ea n v
  · exact hnone
  · obtain hzero | hfault := h
    · exact absurd hzero (misaligned_iff.1 hmis)
    · cases hfault.symm.trans hsplit

end

/-- Every load is `State.load` of its access. -/
theorem exec_of_loadAccess {s : State} {i : Instr} {ea : Word} {n : Nat} (hwf : i.wf s.cfg.isa = true)
    (h : s.loadAccess i = some (ea, n)) : ∃ k, exec i s = .next (s.load ea n k) := by
  cases i
  case lb | lh | lw | lbu | lhu =>
    cases h
    exact ⟨_, rfl⟩
  case ld | lwu | flw | fld | cLw | cFlw | cFld | cLwsp | cFlwsp | cFldsp =>
    cases h
    exact ⟨_, congrArg _ (State.listed_of_wf _ hwf)⟩
  all_goals cases h

/-- Every store is `State.store` of its access. -/
theorem exec_of_storeAccess {s : State} {i : Instr} {ea v : Word} {n : Nat} (hwf : i.wf s.cfg.isa = true)
    (h : s.storeAccess i = some (ea, n, v)) : ∃ ilen, exec i s = .next (s.store ea n v ilen) := by
  cases i
  case sb | sh | sw =>
    cases h
    exact ⟨_, rfl⟩
  case sd | fsw | fsd | cSw | cFsw | cFsd | cSwsp | cFswsp | cFsdsp =>
    cases h
    exact ⟨_, congrArg _ (State.listed_of_wf _ hwf)⟩
  all_goals cases h

/-- Settles O23: every load is `State.load` of its access, and `State.loadFault` says when that raises. -/
theorem loadExceptions : Obligations.LoadExceptions := by
  intro s i ea n hwf haccess
  obtain ⟨k, hexec⟩ := exec_of_loadAccess hwf haccess
  refine ⟨fun hfault hmis => ?_, fun ha hr => ?_⟩
  · rw [Raises, hexec, State.load_of_loadFault k (State.loadFault_of_misaligned hfault hmis)]
  · rw [Raises, hexec, State.load_of_loadFault k (State.loadFault_of_unreadable ha hr)]

/-- Settles O24: what a store that raises has written is `State.storePart`. -/
theorem storeExceptions : Obligations.StoreExceptions := by
  intro s i ea n v hwf haccess
  obtain ⟨ilen, hexec⟩ := exec_of_storeAccess hwf haccess
  refine ⟨fun hfault hmis => ?_, fun hzero hw => ?_, fun hsplit hmis hw => ?_⟩
  · rw [Raises, hexec, State.store_of_storeFault v ilen (State.storeFault_of_misaligned hfault hmis),
      State.storePart_of_not_split v (.inr hfault)]
  · rw [Raises, hexec, State.store_of_storeFault v ilen (State.storeFault_of_unwritable (.inl hzero) hw),
      State.storePart_of_not_split v (.inl hzero)]
  · rw [hexec, State.store_of_storeFault v ilen (State.storeFault_of_unwritable (.inr hsplit) hw)]
    obtain ⟨haligned | hfault, -⟩ | ⟨-, -, k, hpart⟩ := s.storePart_cases ea n v
    · exact absurd (misaligned_iff.2 hmis) (by simp [haligned])
    · cases hfault.symm.trans hsplit
    · exact ⟨k, by rw [hpart]⟩

/-! ## Loads into the integer file -/

theorem toInt_setWidth_eq_signedOf {w : Nat} (hw : 0 < w) (v : Word) :
    (v.setWidth w).toInt = signedOf w v.toNat := by
  rw [signedOf_eq_toInt hw, BitVec.ofInt_natCast, BitVec.ofNat_toNat]

/-- Extension by sign, of a load of 1, 2 or 4 bytes. -/
theorem holdsInt_narrow_sext {x : Xlen} {w : Nat} (hpos : 0 < w) (hw : w ≤ 64) (v : Word) :
    HoldsInt x (x.narrow (sext (v.setWidth w))) (signedOf w v.toNat) := by
  refine holdsInt_narrow_of_toInt ?_
  rw [sext, BitVec.toInt_signExtend_of_le hw, toInt_setWidth_eq_signedOf hpos]

theorem LoadsX.of_loadX {s : State} {i : Instr} {rd : Reg} {ea : Word} {n ilen : Nat} {ext : Word → Word}
    {value : Nat → Int} (hn : n ≤ 8) (hexec : exec i s = .next (s.loadX rd ea n ext ilen))
    (hext : ∀ v : Word, HoldsInt s.xlen (s.xlen.narrow (ext v)) (value v.toNat)) :
    LoadsX s i rd ea n ilen value := by
  intro ha hr
  rw [State.loadX, State.load_of_readable _ ha hr] at hexec
  refine .of_setRd hexec ?_
  rw [← s.mem.toNat_readLE (by rwa [State.length_accessAddrs])]
  exact hext _

/-- Settles O39: each is `State.loadX` with its extension. -/
theorem integerLoads : Obligations.IntegerLoads := by
  intro s rd rs1 imm ea
  have hzero : ∀ v : Word, HoldsInt s.xlen (s.xlen.narrow v) v.toNat := fun v => holdsInt_narrow_of_toNat rfl
  exact ⟨.of_loadX (by decide) rfl (holdsInt_narrow_sext (by decide) (by decide)),
    .of_loadX (by decide) rfl (holdsInt_narrow_sext (by decide) (by decide)),
    .of_loadX (by decide) rfl (holdsInt_narrow_sext (by decide) (by decide)),
    .of_loadX (by decide) rfl hzero, .of_loadX (by decide) rfl hzero,
    fun hx => .of_loadX (by decide) (congrArg _ (State.listed_of_needsXlen64 hx _ rfl)) hzero,
    fun hx => .of_loadX (by decide) (congrArg _ (State.listed_of_needsXlen64 hx _ rfl)) hzero⟩

/-! ## Stores -/

/-- The addresses of an access of up to 8 bytes are distinct, also where they wrap. -/
theorem State.nodup_accessAddrs (s : State) (ea : Word) {n : Nat} (hn : n ≤ 8) :
    (s.accessAddrs ea n).Nodup := by
  have hroom : 8 < 2 ^ s.xlen.bits := by cases s.xlen <;> decide
  rw [State.accessAddrs, List.Nodup, List.pairwise_map]
  refine List.pairwise_lt_range.imp_of_mem fun {i j} _ hj hij heq => ?_
  have hj := List.mem_range.1 hj
  have hzero := Nat.sub_mod_eq_zero_of_mod_eq heq.symm
  rw [Nat.mod_eq_of_lt (by omega)] at hzero
  omega

theorem OnlyStored.storeBytes_advance (s : State) (as : List Nat) (v : Word) (ilen : Nat) :
    OnlyStored s ((s.storeBytes as v).advance ilen) as where
  fields := rfl
  bytes _ ha := s.mem.read_writeLE_of_notMem v ha
  record _ := mem_addAddrs

theorem Stores.of_store {s : State} {i : Instr} {ea v : Word} {n m ilen : Nat} (hn : n ≤ 8)
    (hexec : exec i s = .next (s.store ea n v ilen)) (hv : v.toNat % 256 ^ n = m % 256 ^ n) :
    Stores s i ea n m ilen := by
  intro hmem ha hw
  rw [State.store_of_writable v ilen ha hw] at hexec
  refine ⟨_, hexec, .storeBytes_advance s _ v ilen, ?_, State.pcAdvanced_advance ilen rfl rfl⟩
  have hsum := byteSum_writeLE hmem (s.nodup_accessAddrs ea hn) v
  rw [State.length_accessAddrs] at hsum
  rw [← hv, ← hsum]
  rfl

/-- A store takes the low bytes of a register, which `XLEN` bits include. -/
theorem State.toNat_readX_mod (s : State) (r : Reg) {n : Nat} (hn : 256 ^ n ∣ 2 ^ s.xlen.bits) :
    (s.readX r).toNat % 256 ^ n = s.ux r % 256 ^ n := by
  rw [State.ux, Xlen.unsigned_eq, Nat.mod_mod_of_dvd _ hn]

theorem Xlen.bytes_dvd (x : Xlen) : 256 ^ 1 ∣ 2 ^ x.bits ∧ 256 ^ 2 ∣ 2 ^ x.bits ∧ 256 ^ 4 ∣ 2 ^ x.bits := by
  cases x <;> decide

/-- Settles O40: each is `State.store` of the low bytes of a register. -/
theorem integerStores : Obligations.IntegerStores := by
  intro s rs2 rs1 imm ea
  obtain ⟨h1, h2, h4⟩ := Xlen.bytes_dvd s.xlen
  refine ⟨.of_store (by decide) rfl (s.toNat_readX_mod rs2 h1), .of_store (by decide) rfl
    (s.toNat_readX_mod rs2 h2), .of_store (by decide) rfl (s.toNat_readX_mod rs2 h4), fun hx => ?sd⟩
  case sd =>
    exact .of_store (by decide) (congrArg _ (State.listed_of_needsXlen64 hx _ rfl))
      (s.toNat_readX_mod rs2 (by rw [hx]; decide))

/-! ## The floating-point file -/

theorem flenNarrow_of_flen64 {isa : Isa} (h : isa.flen64 = true) (v : Word) : flenNarrow isa v = v := by
  simp only [flenNarrow, h]

theorem low32_append (hi lo : BitVec 32) : low32 (hi ++ lo) = lo := by
  rw [low32, BitVec.setWidth_append]
  simp

theorem flenNarrow_boxed (s : State) (v : BitVec 32) :
    flenNarrow s.cfg.isa (BitVec.allOnes 32 ++ v) = s.boxed v := by
  have hlow := low32_append (BitVec.allOnes 32) v
  rw [low32] at hlow
  cases h : s.cfg.isa.flen64
  · simp only [flenNarrow, State.boxed, h, hlow]
    rfl
  · simp only [flenNarrow, State.boxed, h]
    rfl

theorem State.readF_wrS_self (s : State) (r : Reg) (v : BitVec 32) : (s.wrS r v).readF r = s.boxed v :=
  (s.readF_writeF_self r _).trans (flenNarrow_boxed s v)

/-- The upper half is all ones exactly when it reads as the largest number. -/
theorem boxed_iff (v : Word) :
    v.extractLsb' 32 32 = BitVec.allOnes 32 ↔ v.toNat / 2 ^ 32 = 2 ^ 32 - 1 := by
  have hv := v.isLt
  rw [← BitVec.toNat_inj, BitVec.extractLsb'_toNat, Nat.shiftRight_eq_div_pow, BitVec.toNat_allOnes,
    Nat.mod_eq_of_lt (by omega)]

/-- Settles O49: boxing is a matter of the upper half of the register. -/
theorem fpRegisterFile : Obligations.FpRegisterFile := by
  intro s r q v d fl
  refine ⟨fun h32 => ?_, fun h64 hbox => ?_, fun h64 hbox => ?_, rfl, rfl, fun h32 => ?_, fun h64 => ?_,
    fun h64 => ?_, fun hq => ⟨s.readF_writeF_ne _ hq, s.readF_writeF_ne _ hq⟩, rfl, rfl, rfl, rfl, rfl, rfl⟩
  · simp [State.rdS, h32]
  · simp [State.rdS, (boxed_iff _).2 hbox]
  · simp only [State.rdS, h64, bne_iff_ne.2 (mt (boxed_iff _).1 hbox), Bool.and_self, if_true]
  · simp [State.readF_wrS_self, State.boxed, h32]
  · simp [State.readF_wrS_self, State.boxed, h64]
  · exact (s.readF_writeF_self r d).trans (flenNarrow_of_flen64 h64 d)

section
variable {s : State} {i : Instr} {fd : Reg} {ilen : Nat} {v w : Word} {fl : FlagSet}

/-- An instruction that puts a value in `f[fd]` and raises flags. -/
theorem RunsF.of_writeF_raiseFlags (hexec : exec i s = .next (((s.writeF fd w).raiseFlags fl).advance ilen))
    (hw : flenNarrow s.cfg.isa w = v) : RunsF s i fd ilen v fl :=
  ⟨_, hexec, ⟨rfl, fun _ hr => s.readF_writeF_ne w hr, fun _ => rfl⟩, (s.readF_writeF_self fd w).trans hw, rfl,
    State.pcAdvanced_advance ilen rfl rfl⟩

/-- An instruction that puts a value in `f[fd]` and raises no flag. -/
theorem RunsF.of_writeF (hexec : exec i s = .next ((s.writeF fd w).advance ilen))
    (hw : flenNarrow s.cfg.isa w = v) : RunsF s i fd ilen v 0#5 := by
  have hnone : (s.writeF fd w).raiseFlags 0#5 = s.writeF fd w := by
    rw [State.raiseFlags, BitVec.or_zero]
  exact .of_writeF_raiseFlags (hnone.symm ▸ hexec) hw

theorem LoadsF.of_load {ea : Word} {n : Nat} {g : Word → Word} {value : Nat → Word}
    (hexec : exec i s = .next (s.load ea n fun v => (s.writeF fd (g v)).advance ilen))
    (hg : ∀ k : Nat, flenNarrow s.cfg.isa (g (BitVec.ofNat 64 k)) = value k) :
    LoadsF s i fd ea n ilen value := by
  intro ha hr
  rw [State.load_of_readable _ ha hr, Memory.readLE_eq_ofNat_byteSum] at hexec
  exact .of_writeF hexec (hg _)

/-- A load of a single. -/
theorem LoadsF.of_loadS {ea : Word} (hexec : exec i s = .next (s.loadS fd ea ilen)) :
    LoadsF s i fd ea 4 ilen (fun v => s.boxed (BitVec.ofNat 32 v)) := by
  refine .of_load hexec fun k => ?_
  rw [flenNarrow_boxed, low32, BitVec.setWidth_ofNat_of_le (by decide)]

/-- A load of a double. -/
theorem LoadsF.of_loadD {ea : Word} (h64 : s.cfg.isa.flen64 = true)
    (hexec : exec i s = .next (s.loadD fd ea ilen)) :
    LoadsF s i fd ea 8 ilen (fun v => BitVec.ofNat 64 v) :=
  .of_load hexec fun _ => flenNarrow_of_flen64 h64 _

end

theorem toNat_zext {w : Nat} (v : BitVec w) (hw : w ≤ 64) : (zext v).toNat = v.toNat := by
  rw [zext, BitVec.toNat_setWidth, Nat.mod_eq_of_lt
    (Nat.lt_of_lt_of_le v.isLt (Nat.pow_le_pow_right (by decide) hw))]

/-- Settles O50: each by the shape of its access, or of its move. -/
theorem fpLoadsStoresMoves : Obligations.FpLoadsStoresMoves := by
  intro s fd fs2 fs1 rd rs1 imm ea
  refine ⟨fun hF => ⟨.of_loadS (congrArg _ (State.listed_of_unless hF _ rfl)),
      .of_store (by decide) (congrArg _ (State.listed_of_unless hF _ rfl)) ?fsw,
      .of_sext (by decide) (congrArg _ (State.listed_of_unless hF _ rfl)),
      .of_writeF (congrArg _ (State.listed_of_unless hF _ rfl)) (flenNarrow_boxed s _)⟩,
    fun hD => ⟨.of_loadD hD (congrArg _ (State.listed_of_unless hD _ rfl)),
      .of_store (by decide) (congrArg _ (State.listed_of_unless hD _ rfl)) rfl⟩⟩
  case fsw => rw [toNat_zext _ (by decide), State.rawS]

/-! ## The loads and stores of Table B.6 -/

theorem toInt_zext {w : Nat} (v : BitVec w) (hw : w < 32) : (zext v).toInt = v.toNat := by
  rw [← Xlen.toInt_cut_zext .x64 v hw, Xlen.toInt_cut]
  rfl

/-- The address of a 16-bit form: an offset scaled by `2^k` and extended by zeros (R128). -/
theorem State.toNat_ea_scaled (s : State) (r : Reg) {w : Nat} (v : BitVec w) (k : Nat) (hw : w + k < 32) :
    (s.ea r (zext (v ++ 0#k))).toNat = (s.ux r + 2 ^ k * v.toNat) % 2 ^ s.xlen.bits := by
  have h := s.toNat_ea r (zext (v ++ 0#k))
  rw [toInt_zext _ hw, toNat_append_zero] at h
  exact_mod_cast h

section
variable {isa : Isa} (hC : isa.hasC = true)
include hC

theorem cLwsp_wf {rd : Reg} (hrd : rd ≠ 0#5) (imm : BitVec 6) : Instr.wf isa (.cLwsp rd imm) = true := by
  simp [Instr.wf, Instr.illFormed, IllFormed.unless, hC, hrd]

/-- The 16-bit floating-point accesses need the extension of their precision too. -/
theorem wf_of_needsC_or {i : Instr} {ok : Bool} {why : IllFormed} (hok : ok = true)
    (hneeds : i.illFormed isa = (IllFormed.unless isa.hasC .needsC).or (IllFormed.unless ok why)) :
    i.wf isa = true := by
  simp [Instr.wf, hneeds, IllFormed.unless, hC, hok]

end

/-- Settles O59: the accesses of Table B.1 and Table B.3, at the addresses of the 16-bit forms. -/
theorem compressedMemory : Obligations.CompressedMemory := by
  intro s cd cs r i5 i6 hC eaW eaD spW spD
  obtain ⟨-, -, h4⟩ := Xlen.bytes_dvd s.xlen
  have hraw : ∀ q : Reg, (zext (s.rawS q)).toNat % 256 ^ 4 = (low32 (s.readF q)).toNat % 256 ^ 4 := by
    intro q
    rw [toNat_zext _ (by decide), State.rawS]
  refine ⟨.of_loadX (by decide) (congrArg _ (State.listed_of_unless hC _ rfl))
      (holdsInt_narrow_sext (by decide) (by decide)),
    fun hr => .of_loadX (by decide) (congrArg _ (State.listed_of_wf _ (cLwsp_wf hC hr i6)))
      (holdsInt_narrow_sext (by decide) (by decide)),
    .of_store (by decide) (congrArg _ (State.listed_of_unless hC _ rfl)) (s.toNat_readX_mod _ h4),
    .of_store (by decide) (congrArg _ (State.listed_of_unless hC _ rfl)) (s.toNat_readX_mod _ h4),
    fun hF => ⟨.of_loadS (congrArg _ (State.listed_of_wf _ (wf_of_needsC_or hC hF rfl))),
      .of_loadS (congrArg _ (State.listed_of_wf _ (wf_of_needsC_or hC hF rfl))),
      .of_store (by decide) (congrArg _ (State.listed_of_wf _ (wf_of_needsC_or hC hF rfl))) (hraw _),
      .of_store (by decide) (congrArg _ (State.listed_of_wf _ (wf_of_needsC_or hC hF rfl))) (hraw _)⟩,
    fun hD => ⟨.of_loadD hD (congrArg _ (State.listed_of_wf _ (wf_of_needsC_or hC hD rfl))),
      .of_loadD hD (congrArg _ (State.listed_of_wf _ (wf_of_needsC_or hC hD rfl))),
      .of_store (by decide) (congrArg _ (State.listed_of_wf _ (wf_of_needsC_or hC hD rfl))) rfl,
      .of_store (by decide) (congrArg _ (State.listed_of_wf _ (wf_of_needsC_or hC hD rfl))) rfl⟩,
    s.toNat_ea_scaled _ i5 2 (by decide), s.toNat_ea_scaled _ i5 3 (by decide),
    s.toNat_ea_scaled _ i6 2 (by decide), s.toNat_ea_scaled _ i6 3 (by decide)⟩

end Sys2Proof.Machine
end


section
/-! The control and status registers: which exist, when an access is refused, what a write leaves
(`spec/10_state.md` R41 to R45, `spec/46_priv_csr.md` R446 to R452, `spec/60_exceptions.md` R479). -/

namespace Sys2Proof.Machine

/-! ## Accesses -/

section
variable {s : State} {i : Instr} {rd : Reg} {n : BitVec 12} {writes : Bool} {new : Word → Word}

/-- An access that passes its checks. -/
theorem RunsCsr.of_csrAccess (hallowed : s.csrAllowed n writes = true)
    (hexec : exec i s = .next (s.csrAccess i rd n writes new)) :
    RunsCsr s i rd n (if writes then s.writeCsr n (new (s.readCsr n)) else s) := by
  rw [State.csrAccess, if_pos hallowed] at hexec
  have hkeeps : ∀ u : State, u.cfg = s.cfg → u.x = s.x → u.pc = s.pc → u.mem = s.mem →
      exec i s = .next ((u.writeX rd (s.readCsr n)).advance 4) → RunsCsr s i rd n u := by
    intro u hcfg hx hpc hmem hexec
    have honly := OnlyX.setRd u rd (s.readCsr n) 4
    have hxlen : u.xlen = s.xlen := congrArg Config.xlen hcfg
    refine ⟨_, hexec, honly.fields, fun r hr => (honly.regs r hr).trans (State.readX_congr hx r), honly.zero,
      fun hrd => ?_, fun a => (honly.bytes a).trans (by rw [hmem]),
      State.pcAdvanced_advance 4 ((State.writeX_xlen u rd _).trans hxlen) ((State.writeX_pc u rd _).trans hpc)⟩
    rw [show ((u.writeX rd (s.readCsr n)).advance 4).readX rd = _ from u.readX_writeX_self _ hrd, hxlen]
    exact holdsInt_narrow_of_toNat rfl
  cases writes with
  | false => exact hkeeps s rfl rfl rfl rfl hexec
  | true =>
    exact hkeeps _ (s.writeCsr_cfg n _) (s.writeCsr_x n _) (s.writeCsr_pc n _) (s.writeCsr_mem n _) hexec

/-- The forms that write in every case. -/
theorem RunsCsr.of_csrAccess_write {v : Word} (hallowed : s.csrAllowed n true = true)
    (hexec : exec i s = .next (s.csrAccess i rd n true fun _ => v)) : RunsCsr s i rd n (s.writeCsr n v) :=
  RunsCsr.of_csrAccess hallowed hexec

/-- The forms that write only when their field is not 0. -/
theorem RunsCsr.of_csrAccess_ne_zero {field : BitVec 5} (hallowed : s.csrAllowed n (field != 0#5) = true)
    (hexec : exec i s = .next (s.csrAccess i rd n (field != 0#5) new)) :
    RunsCsr s i rd n (if field = 0#5 then s else s.writeCsr n (new (s.readCsr n))) := by
  have h := RunsCsr.of_csrAccess hallowed hexec
  by_cases hfield : field = 0#5
  · rw [if_pos hfield]
    simpa [hfield] using h
  · rw [if_neg hfield]
    simpa [hfield] using h

/-- A refused access raises, and so does the instruction on a machine without it. -/
theorem Raises.of_csr_refused {new : State → Word → Word} (hrefused : s.csrAllowed n writes = false)
    (hexec : exec i s = .next (s.listed i fun s => s.csrAccess i rd n writes (new s))) :
    Raises s i .illegalInstruction (encode i).bits := by
  rw [Raises, hexec]
  obtain ⟨-, hrun⟩ | ⟨-, hraise⟩ := s.listed_cases i fun s => s.csrAccess i rd n writes (new s)
  · rw [hrun, State.csrAccess, if_neg (by simp [hrefused]), State.illegal]
  · rw [hraise]

end

section
variable (s : State) (rd : Reg) (n : BitVec 12) (rs1 uimm : BitVec 5)

theorem exec_crrw : exec (.crrw rd n rs1) s = .next (s.listed (.crrw rd n rs1) fun s =>
    s.csrAccess (.crrw rd n rs1) rd n true fun _ => s.readX rs1) := rfl

theorem exec_crrs : exec (.crrs rd n rs1) s = .next (s.listed (.crrs rd n rs1) fun s =>
    s.csrAccess (.crrs rd n rs1) rd n (rs1 != 0#5) fun old => old ||| s.readX rs1) := rfl

theorem exec_crrc : exec (.crrc rd n rs1) s = .next (s.listed (.crrc rd n rs1) fun s =>
    s.csrAccess (.crrc rd n rs1) rd n (rs1 != 0#5) fun old => old &&& ~~~s.readX rs1) := rfl

theorem exec_crrwi : exec (.crrwi rd n uimm) s = .next (s.listed (.crrwi rd n uimm) fun s =>
    s.csrAccess (.crrwi rd n uimm) rd n true fun _ => zext uimm) := rfl

theorem exec_crrsi : exec (.crrsi rd n uimm) s = .next (s.listed (.crrsi rd n uimm) fun s =>
    s.csrAccess (.crrsi rd n uimm) rd n (uimm != 0#5) fun old => old ||| zext uimm) := rfl

theorem exec_crrci : exec (.crrci rd n uimm) s = .next (s.listed (.crrci rd n uimm) fun s =>
    s.csrAccess (.crrci rd n uimm) rd n (uimm != 0#5) fun old => old &&& ~~~zext uimm) := rfl

end

/-- Settles O45: each is `State.csrAccess` with its own new value. -/
theorem csrInstructions : Obligations.CsrInstructions := by
  intro s rd n rs1 uimm hS
  have hexec : ∀ {i : Instr} {f : State → State}, exec i s = .next (s.listed i f) →
      i.illFormed s.cfg.isa = IllFormed.unless s.cfg.isa.s .needsS → exec i s = .next (f s) :=
    fun h hneeds => by rw [h, State.listed_of_needsS hS _ hneeds]
  exact ⟨fun h => ⟨.of_csrAccess_write h (hexec (exec_crrw s rd n rs1) rfl),
      .of_csrAccess_write h (hexec (exec_crrwi s rd n uimm) rfl)⟩,
    fun h => ⟨.of_csrAccess_ne_zero (new := (· ||| s.readX rs1)) h (hexec (exec_crrs s rd n rs1) rfl),
      .of_csrAccess_ne_zero (new := (· &&& ~~~s.readX rs1)) h (hexec (exec_crrc s rd n rs1) rfl)⟩,
    fun h => ⟨.of_csrAccess_ne_zero (new := (· ||| zext uimm)) h (hexec (exec_crrsi s rd n uimm) rfl),
      .of_csrAccess_ne_zero (new := (· &&& ~~~zext uimm)) h (hexec (exec_crrci s rd n uimm) rfl)⟩⟩

theorem csrReadOnly_iff (n : BitVec 12) : csrReadOnly n = true ↔ 0xc00 ≤ n.toNat := by
  have hn := n.isLt
  rw [csrReadOnly, beq_iff_eq, ← BitVec.toNat_inj, BitVec.extractLsb'_toNat, Nat.shiftRight_eq_div_pow]
  simp only [BitVec.toNat_ofNat]
  omega

theorem State.csrAllowed_eq_false_iff (s : State) (n : BitVec 12) (writes : Bool) :
    s.csrAllowed n writes = false ↔
      s.csrExists n = false ∨ s.priv.code.toNat < modeAsked n ∨ (writes = true ∧ 0xc00 ≤ n.toNat) := by
  rw [State.csrAllowed, Bool.and_eq_false_iff, Bool.and_eq_false_iff, Bool.not_eq_false', Bool.not_eq_false',
    Bool.and_eq_true, csrReadOnly_iff, Priv.below_iff, ← modeAsked_eq, or_assoc]

/-- Settles O46: the three checks of `State.csrAllowed`, and the raise when one fails. -/
theorem csrChecks : Obligations.CsrChecks := by
  intro s rd n rs1 uimm writes
  exact ⟨s.csrAllowed_eq_false_iff n writes,
    fun h => ⟨.of_csr_refused h (exec_crrw s rd n rs1), .of_csr_refused h (exec_crrwi s rd n uimm)⟩,
    fun h => ⟨.of_csr_refused h (exec_crrs s rd n rs1), .of_csr_refused h (exec_crrc s rd n rs1)⟩,
    fun h => ⟨.of_csr_refused h (exec_crrsi s rd n uimm), .of_csr_refused h (exec_crrci s rd n uimm)⟩⟩

/-! ## Which registers exist -/

theorem State.namedCsr_isSome_iff (s : State) (n : BitVec 12) :
    (s.namedCsr n).isSome = true ↔ ∃ c ∈ s.cfg.csrFile, csrNumber c = n := by
  simp [State.namedCsr]

theorem mem_reference_iff {isa : Isa} {layer : TrapLayer} {c : Csr} :
    c ∈ Csr.reference isa layer ↔
      c ∈ [Csr.uepc, .sepc, .mepc] ∨ (isa.hasF = true ∧ c ∈ [Csr.fflags, .frm, .fcsr]) ∨
      (layer = .mmode ∧ c ∈ [Csr.mstatus, .mtvec, .mscratch, .mcause, .mtval]) := by
  cases hF : isa.hasF <;> cases layer <;> simp [Csr.reference, hF, or_assoc]

/-- Settles O47: the numbers of the registers of `Csr.reference`. -/
theorem referenceCsrFile : Obligations.ReferenceCsrFile := by
  intro s n hfile hextra
  have hnumbers : ∀ cs : List Csr, (∃ c ∈ cs, csrNumber c = n) ↔ n ∈ cs.map csrNumber := by simp
  have hnone : s.extraDesc n = none := by simp [State.extraDesc, hextra]
  rw [State.csrExists, hnone, Option.isSome_none, Bool.or_false, State.namedCsr_isSome_iff, hfile]
  simp only [mem_reference_iff, or_and_right, exists_or, and_assoc, exists_and_left, hnumbers]
  rfl

/-! ## What a write leaves -/

section
variable (s : State)

theorem State.hasCsr_writeCsr (n : BitVec 12) (v : Word) (c : Csr) :
    (s.writeCsr n v).hasCsr c = s.hasCsr c := by
  rw [State.hasCsr, State.writeCsr_cfg, State.hasCsr]

theorem State.writeCsr_of_hasCsr {s : State} {c : Csr} (hc : s.hasCsr c = true) (v : Word) :
    s.writeCsr (csrNumber c) v = s.writeNamed c v := by
  rw [State.writeCsr, State.namedCsr_of_hasCsr hc]

theorem State.toNat_mstatus :
    s.mstatus.toNat = 8 * s.mie.toNat + 128 * s.mpie.toNat + 2048 * s.mpp.code.toNat := by
  rw [State.mstatus]
  cases s.mie <;> cases s.mpie <;> cases s.mpp <;> rfl

theorem privOfCode_getD_code (modes : PrivModes) (p : Priv) (c : BitVec 2) :
    ((privOfCode modes c).getD p).code.toNat =
      if c.toNat = 3 ∨ (c.toNat = 1 ∧ modes.has .s = true) ∨ (c.toNat = 0 ∧ modes.has .u = true) then c.toNat
      else p.code.toNat := by
  have hcode : c = 0#2 ∨ c = 1#2 ∨ c = 2#2 ∨ c = 3#2 := by
    revert c
    decide
  obtain rfl | rfl | rfl | rfl := hcode
  · cases h : modes.has .u <;> simp [privOfCode, h, Priv.code]
  · cases h : modes.has .s <;> simp [privOfCode, h, Priv.code]
  · simp [privOfCode]
  · simp [privOfCode, Priv.code]

theorem State.toNat_mstatus_writeMstatus (v : Word) :
    (s.writeMstatus v).mstatus.toNat = s.csrStored .mstatus v.toNat := by
  have hmpp : (v.extractLsb' 11 2).toNat = v.toNat / 2048 % 4 := by
    rw [BitVec.extractLsb'_toNat, Nat.shiftRight_eq_div_pow]
  have hcode := privOfCode_getD_code s.cfg.privModes s.mpp (v.extractLsb' 11 2)
  rw [hmpp] at hcode
  rw [State.toNat_mstatus]
  simp only [State.writeMstatus, State.csrStored, hcode, BitVec.getLsbD, Nat.toNat_testBit]

/-- A described register reads as its write rule says. -/
theorem State.toNat_readNamed_writeNamed (c : Csr) (v : Word) :
    ((s.writeNamed c v).readNamed c).toNat = s.csrStored c v.toNat := by
  have hepc : (s.cfg.isa.alignPc (s.cfg.isa.alignPc (s.xlen.narrow v))).toNat =
      v.toNat % 2 ^ s.xlen.bits / s.cfg.isa.ialignBytes * s.cfg.isa.ialignBytes := by
    rw [alignPc_alignPc, Isa.toNat_alignPc, Xlen.toNat_narrow]
  cases c
  case fflags =>
    refine (toNat_zext _ (by decide)).trans ?_
    simp [State.writeNamed, BitVec.extractLsb'_toNat, State.csrStored]
  case frm =>
    refine (toNat_zext _ (by decide)).trans ?_
    simp [State.writeNamed, BitVec.extractLsb'_toNat, Nat.shiftRight_eq_div_pow, State.csrStored]
  case fcsr =>
    refine (toNat_zext (v.extractLsb' 5 3 ++ v.extractLsb' 0 5) (by decide)).trans ?_
    rw [BitVec.extractLsb'_append_extractLsb'_eq_extractLsb' (by decide)]
    simp [State.csrStored]
  case uepc | sepc | mepc => exact hepc
  case mstatus => exact s.toNat_mstatus_writeMstatus v
  case mtvec =>
    refine (congrArg BitVec.toNat (BitVec.and_assoc _ _ _)).trans ?_
    rw [BitVec.and_self, toNat_and_not_three, Xlen.toNat_narrow]
    rfl
  case mscratch | mcause | mtval => exact Xlen.toNat_narrow _ _

/-- A write shows in the registers that share a field with the one written, and in no other. -/
theorem State.readNamed_writeNamed_of_not_shares {c d : Csr} (v : Word) (h : csrShares c d = false) :
    (s.writeNamed c v).readNamed d = s.readNamed d := by
  cases c <;> cases d
  case fflags.fflags | fflags.fcsr | frm.frm | frm.fcsr | fcsr.fcsr | fcsr.fflags | fcsr.frm | uepc.uepc
      | sepc.sepc | mepc.mepc | mstatus.mstatus | mtvec.mtvec | mscratch.mscratch | mcause.mcause
      | mtval.mtval => cases h
  all_goals rfl

theorem State.onlyCsr_writeNamed (c : Csr) (v : Word) : OnlyCsr c s (s.writeNamed c v) := by
  cases c <;> rfl

end

/-! ## Registers given by their fields -/

section
variable {f : CsrField} {k : Nat}

/-- The mask of a field holds the bits that it covers. -/
theorem CsrField.getLsbD_mask (hf : f.lo + f.width ≤ 64) : f.mask.getLsbD k = true ↔ fieldCovers f k := by
  simp only [CsrField.mask, CsrField.ones, BitVec.getLsbD_shiftLeft, BitVec.getLsbD_ushiftRight,
    BitVec.getLsbD_allOnes, Bool.and_eq_true, decide_eq_true_eq, Bool.not_eq_true', decide_eq_false_iff_not,
    fieldCovers]
  omega

/-- A field taken from a value. -/
theorem CsrField.getLsbD_take_of_covers (hf : f.lo + f.width ≤ 64) (hk : fieldCovers f k) (new acc : Word) :
    (f.take new acc).getLsbD k = new.getLsbD k := by
  have hmask : f.mask.getLsbD k = true := (CsrField.getLsbD_mask hf).2 hk
  simp [CsrField.take, hmask]

theorem CsrField.getLsbD_take_of_not_covers (hf : f.lo + f.width ≤ 64) (hk : ¬fieldCovers f k)
    (new acc : Word) : (f.take new acc).getLsbD k = acc.getLsbD k := by
  have hmask : f.mask.getLsbD k = false := eq_false_of_ne_true (mt (CsrField.getLsbD_mask hf).1 hk)
  by_cases h64 : k < 64
  · simp only [CsrField.take, BitVec.getLsbD_or, BitVec.getLsbD_and, BitVec.getLsbD_not, hmask, h64,
      decide_true, Bool.not_false, Bool.and_true, Bool.and_false, Bool.or_false]
  · rw [BitVec.getLsbD_of_ge _ k (by omega), BitVec.getLsbD_of_ge _ k (by omega)]

theorem CsrField.get_eq (hf : f.lo + f.width ≤ 64) (v : Word) :
    f.get v = (v.extractLsb' f.lo f.width).setWidth 64 := by
  apply BitVec.eq_of_getLsbD_eq
  intro j hj
  simp only [CsrField.get, CsrField.ones, BitVec.getLsbD_and, BitVec.getLsbD_ushiftRight,
    BitVec.getLsbD_allOnes, BitVec.getLsbD_setWidth, BitVec.getLsbD_extractLsb', hj, decide_true,
    Bool.true_and]
  have hiff : 64 - f.width + j < 64 ↔ j < f.width := by omega
  rw [Bool.and_comm]
  simp only [hiff]

/-- What a write puts in a bit that the field covers, where the bit was `old`. -/
def CsrField.bitAfter (f : CsrField) (new : Word) (k : Nat) (old : Bool) : Bool :=
  match f.kind with
  | .any => new.getLsbD k
  | .legal vs => if (new.extractLsb' f.lo f.width).setWidth 64 ∈ vs then new.getLsbD k else old
  | .readOnly | .zero => old

theorem CsrField.getLsbD_write_of_covers (hf : f.lo + f.width ≤ 64) (hk : fieldCovers f k) (new acc : Word) :
    (f.write new acc).getLsbD k = CsrField.bitAfter f new k (acc.getLsbD k) := by
  unfold CsrField.write CsrField.bitAfter
  cases f.kind with
  | any => exact CsrField.getLsbD_take_of_covers hf hk new acc
  | legal vs =>
    simp only [← CsrField.get_eq hf, List.contains_iff_mem]
    split
    next => exact CsrField.getLsbD_take_of_covers hf hk new acc
    next => rfl
  | readOnly => rfl
  | zero => rfl

theorem CsrField.getLsbD_write_of_not_covers (hf : f.lo + f.width ≤ 64) (hk : ¬fieldCovers f k)
    (new acc : Word) : (f.write new acc).getLsbD k = acc.getLsbD k := by
  unfold CsrField.write
  cases f.kind with
  | any => exact CsrField.getLsbD_take_of_not_covers hf hk new acc
  | legal vs =>
    dsimp only
    split
    next => exact CsrField.getLsbD_take_of_not_covers hf hk new acc
    next => rfl
  | readOnly => rfl
  | zero => rfl

/-- What a read shows of a bit that the field covers, where the register holds `bit`. -/
def CsrField.bitShown (f : CsrField) (bit : Bool) : Bool :=
  match f.kind with
  | .any | .legal _ | .readOnly => bit
  | .zero => false

theorem CsrField.getLsbD_reveal_of_covers (hf : f.lo + f.width ≤ 64) (hk : fieldCovers f k) (acc : Word) :
    (f.reveal acc).getLsbD k = CsrField.bitShown f (acc.getLsbD k) := by
  have hmask : f.mask.getLsbD k = true := (CsrField.getLsbD_mask hf).2 hk
  unfold CsrField.reveal CsrField.bitShown
  cases f.kind <;> simp [hmask]

theorem CsrField.getLsbD_reveal_of_not_covers (hf : f.lo + f.width ≤ 64) (hk : ¬fieldCovers f k)
    (acc : Word) : (f.reveal acc).getLsbD k = acc.getLsbD k := by
  have hmask : f.mask.getLsbD k = false := eq_false_of_ne_true (mt (CsrField.getLsbD_mask hf).1 hk)
  unfold CsrField.reveal
  cases f.kind with
  | any | legal | readOnly => rfl
  | zero =>
    by_cases h64 : k < 64
    · simp only [BitVec.getLsbD_and, BitVec.getLsbD_not, hmask, h64, decide_true, Bool.not_false,
        Bool.and_true]
    · rw [BitVec.getLsbD_of_ge _ k (by omega), BitVec.getLsbD_of_ge _ k (by omega)]

end

/-! ### All the fields of a register -/

section
variable {g : CsrField → Word → Word} {k : Nat} {fs : List CsrField}
  (hskip : ∀ f ∈ fs, ¬fieldCovers f k → ∀ acc, (g f acc).getLsbD k = acc.getLsbD k)
include hskip

/-- A bit that no field covers is not touched. -/
theorem getLsbD_foldl_of_not_covers (hk : ∀ f ∈ fs, ¬fieldCovers f k) (acc : Word) :
    (fs.foldl (fun acc f => g f acc) acc).getLsbD k = acc.getLsbD k := by
  induction fs generalizing acc with
  | nil => rfl
  | cons f fs ih =>
    obtain ⟨hskipHead, hskipTail⟩ := List.forall_mem_cons.1 hskip
    obtain ⟨hhead, htail⟩ := List.forall_mem_cons.1 hk
    rw [List.foldl_cons, ih hskipTail htail, hskipHead hhead]

/-- A bit is decided by the one field that covers it. -/
theorem getLsbD_foldl_of_covers
    (hapart : fs.Pairwise (fun f g => ∀ k, ¬(fieldCovers f k ∧ fieldCovers g k))) {f : CsrField}
    (hf : f ∈ fs) (hk : fieldCovers f k) {b : Bool → Bool}
    (hb : ∀ acc, (g f acc).getLsbD k = b (acc.getLsbD k)) (acc : Word) :
    (fs.foldl (fun acc f => g f acc) acc).getLsbD k = b (acc.getLsbD k) := by
  induction fs generalizing acc with
  | nil => simp at hf
  | cons h fs ih =>
    obtain ⟨hskipHead, hskipTail⟩ := List.forall_mem_cons.1 hskip
    obtain ⟨hapartHead, hapartTail⟩ := List.pairwise_cons.1 hapart
    rw [List.foldl_cons]
    obtain rfl | hf := List.mem_cons.1 hf
    · rw [getLsbD_foldl_of_not_covers hskipTail fun e he hcov => hapartHead e he k ⟨hk, hcov⟩, hb]
    · have hnot : ¬fieldCovers h k := fun hcov => hapartHead f hf k ⟨hcov, hk⟩
      rw [ih hskipTail hapartTail hf, hskipHead hnot]

end

theorem Xlen.getLsbD_narrow (x : Xlen) (v : Word) {k : Nat} (hk : k < x.bits) :
    (x.narrow v).getLsbD k = v.getLsbD k := by
  cases x
  · have hk32 : k < 32 := hk
    simp [Xlen.narrow, hk32, show k < 64 by omega]
  · rfl

/-- Reading back a write, bit by bit. -/
theorem csrBitIs_shown_written {d : CsrDesc} (hd : FieldsApart d) (x : Xlen) (old new : Word) {k : Nat}
    (hk : k < x.bits) : CsrBitIs d old new k ((d.shown (x.narrow (d.written old new))).getLsbD k) := by
  obtain ⟨hapart, hroom⟩ := hd
  have hwrite : ∀ f ∈ d.fields, ¬fieldCovers f k → ∀ acc, (f.write new acc).getLsbD k = acc.getLsbD k :=
    fun f hf hcov acc => CsrField.getLsbD_write_of_not_covers (hroom f hf) hcov new acc
  have hreveal : ∀ f ∈ d.fields, ¬fieldCovers f k → ∀ acc, (f.reveal acc).getLsbD k = acc.getLsbD k :=
    fun f hf hcov acc => CsrField.getLsbD_reveal_of_not_covers (hroom f hf) hcov acc
  refine ⟨fun hnone => ?_, fun f hf hcov => ?_⟩
  · rw [CsrDesc.shown, getLsbD_foldl_of_not_covers hreveal hnone, Xlen.getLsbD_narrow x _ hk, CsrDesc.written,
      getLsbD_foldl_of_not_covers hwrite hnone]
  · have hbit : (d.shown (x.narrow (d.written old new))).getLsbD k =
        CsrField.bitShown f (CsrField.bitAfter f new k (old.getLsbD k)) := by
      rw [CsrDesc.shown, getLsbD_foldl_of_covers hreveal hapart hf hcov
          (CsrField.getLsbD_reveal_of_covers (hroom f hf) hcov), Xlen.getLsbD_narrow x _ hk, CsrDesc.written,
        getLsbD_foldl_of_covers hwrite hapart hf hcov
          (CsrField.getLsbD_write_of_covers (hroom f hf) hcov new)]
    rw [hbit]
    unfold CsrField.bitShown CsrField.bitAfter
    cases f.kind <;> rfl

theorem State.readNamed_writeExtra (s : State) (d : CsrDesc) (n : BitVec 12) (v : Word) (c : Csr) :
    (s.writeExtra d n v).readNamed c = s.readNamed c := by
  cases c <;> rfl

theorem State.readCsr_of_extraDesc {s : State} {n : BitVec 12} {d : CsrDesc} (hnamed : s.namedCsr n = none)
    (hextra : s.extraDesc n = some d) : s.readCsr n = d.shown (s.extraVal n) := by
  simp only [State.readCsr, hnamed, hextra]

/-- Another number reads as before. -/
theorem State.readCsr_writeExtra_ne (s : State) (d : CsrDesc) {n m : BitVec 12} (v : Word) (hm : m ≠ n) :
    (s.writeExtra d n v).readCsr m = s.readCsr m := by
  have hval : (s.writeExtra d n v).extraVal m = s.extraVal m := lookupCsr_setCsr_ne _ _ _ hm
  have hnamed : (s.writeExtra d n v).namedCsr m = s.namedCsr m := rfl
  have hextra : (s.writeExtra d n v).extraDesc m = s.extraDesc m := rfl
  cases hc : s.namedCsr m with
  | some c => simp only [State.readCsr, hnamed, hc, State.readNamed_writeExtra]
  | none =>
    cases he : s.extraDesc m with
    | some e => simp only [State.readCsr, hnamed, hc, hextra, he, hval]
    | none => simp only [State.readCsr, hnamed, hc, hextra, he]

/-- Settles O48: the described registers by their write rules, the further ones by their fields. -/
theorem csrFields : Obligations.CsrFields := by
  refine ⟨fun s c v hc => ?described, fun s n m d v k hnamed hextra hd hk => ?further⟩
  case described =>
    have hread : ∀ d, s.hasCsr d = true →
        (s.writeCsr (csrNumber c) v).readCsr (csrNumber d) = (s.writeNamed c v).readNamed d := by
      intro d hd
      rw [State.readCsr_of_hasCsr (by rwa [State.hasCsr_writeCsr]), State.writeCsr_of_hasCsr hc]
    refine ⟨?_, fun d hd hshares => ?_, ?_, ?_⟩
    · rw [hread c hc, State.toNat_readNamed_writeNamed]
    · rw [hread d hd, State.readNamed_writeNamed_of_not_shares s v hshares, State.readCsr_of_hasCsr hd]
    · rintro rfl
      rw [State.writeCsr_of_hasCsr hc]
      simp [State.writeNamed, BitVec.extractLsb'_toNat, Nat.shiftRight_eq_div_pow]
    · rw [State.writeCsr_of_hasCsr hc]
      exact s.onlyCsr_writeNamed c v
  case further =>
    have hwrite : s.writeCsr n v = s.writeExtra d n v := by simp only [State.writeCsr, hnamed, hextra]
    rw [hwrite]
    refine ⟨?_, rfl, fun hm => ⟨s.readCsr_writeExtra_ne d v hm, lookupCsr_setCsr_ne _ _ _ hm⟩⟩
    have hval : (s.writeExtra d n v).extraVal n =
        s.xlen.narrow (d.written (s.extraVal n) (s.xlen.narrow v)) := lookupCsr_setCsr_self _ _ _ _
    rw [State.readCsr_of_extraDesc (s := s.writeExtra d n v) hnamed hextra, hval]
    exact csrBitIs_shown_written hd s.xlen _ _ hk

end Sys2Proof.Machine
end


section
/-! Floating-point instructions: what is left in the registers by one that computes with a function of
`FP_NUMERICS` (`spec/42_rvfd.md` R230 to R233, R240 to R273). -/

namespace Sys2Proof.Machine

theorem State.withRm_of_resolved {s : State} {rm : RmField} {mode : RoundMode} (i : Instr)
    (k : RoundMode → State) (hmode : s.resolveRm rm = some mode) : s.withRm i rm k = k mode := by
  simp only [State.withRm, hmode]

theorem State.numerics_of_ieee {s : State} (h : s.cfg.numerics = .ieee) : s.numerics = ieeeNumerics := by
  rw [State.numerics, h, numericsOf]

/-! ## Results in the floating-point file -/

/-- The machine has the registers of a precision. -/
def State.HasPrec (s : State) (p : Prec) : Prop :=
  match p with
  | .single => s.cfg.isa.hasF = true
  | .double => s.cfg.isa.hasD = true

section
variable {s : State} {i : Instr} {p : Prec} {fd fs1 fs2 fs3 : Reg} {rm : RmField} {mode : RoundMode}
  {res : Nat × FlagSet}

/-- An instruction that puts a result in `f[fd]` and raises its flags. -/
theorem RunsFp.of_fpResult (hp : s.HasPrec p) (hexec : exec i s = .next (s.fpResult p fd res)) :
    RunsFp s i p fd res := by
  cases p with
  | single => exact .of_writeF_raiseFlags hexec (flenNarrow_boxed s _)
  | double => exact .of_writeF_raiseFlags hexec (flenNarrow_of_flen64 hp _)

theorem RunsFp.of_withRm {f : RoundMode → Nat × FlagSet} (hp : s.HasPrec p)
    (hmode : s.resolveRm rm = some mode)
    (hexec : exec i s = .next (s.withRm i rm fun mode => s.fpResult p fd (f mode))) :
    RunsFp s i p fd (f mode) :=
  .of_fpResult hp (hexec.trans (congrArg _ (State.withRm_of_resolved i _ hmode)))

/-- A fused operation on the operands that its row negates. -/
theorem RunsFp.of_fpFma {negProd negAdd : Bool} {a c : Nat} (hp : s.HasPrec p)
    (hmode : s.resolveRm rm = some mode)
    (hexec : exec i s = .next (s.fpFma i p fd fs1 fs2 fs3 rm negProd negAdd))
    (ha : (if negProd then s.numerics.neg p (s.rdP p fs1) else s.rdP p fs1) = a)
    (hc : (if negAdd then s.numerics.neg p (s.rdP p fs3) else s.rdP p fs3) = c) :
    RunsFp s i p fd (s.numerics.fma p mode a (s.rdP p fs2) c) := by
  rw [← ha, ← hc]
  exact .of_withRm (f := fun mode => s.numerics.fma p mode _ _ _) hp hmode hexec

theorem RunsFp.of_fpArith {op : Prec → RoundMode → Nat → Nat → Nat × FlagSet} (hp : s.HasPrec p)
    (hmode : s.resolveRm rm = some mode)
    (hexec : exec i s = .next (s.fpArith i p op fd fs1 fs2 rm)) :
    RunsFp s i p fd (op p mode (s.rdP p fs1) (s.rdP p fs2)) :=
  .of_withRm (f := fun mode => op p mode _ _) hp hmode hexec

theorem RunsFp.of_fpSqrt (hp : s.HasPrec p) (hmode : s.resolveRm rm = some mode)
    (hexec : exec i s = .next (s.fpSqrt i p fd fs1 rm)) :
    RunsFp s i p fd (s.numerics.sqrt p mode (s.rdP p fs1)) :=
  .of_withRm (f := fun mode => s.numerics.sqrt p mode _) hp hmode hexec

theorem RunsFp.of_fpPick {op : Prec → Nat → Nat → Nat × FlagSet} (hp : s.HasPrec p)
    (hexec : exec i s = .next (s.fpPick p op fd fs1 fs2)) :
    RunsFp s i p fd (op p (s.rdP p fs1) (s.rdP p fs2)) :=
  .of_fpResult hp hexec

/-- Sign injection, with the result as a number. -/
theorem RunsFp.of_fpSign {sgn : Bool → Bool → Bool} {v : Nat} (hp : s.HasPrec p)
    (hexec : exec i s = .next (s.fpSign p sgn fd fs1 fs2))
    (hv : p.withSign (sgn (p.negOf (s.rdP p fs1)) (p.negOf (s.rdP p fs2))) (p.magOf (s.rdP p fs1)) = v) :
    RunsFp s i p fd (v, 0#5) := by
  rw [← hv]
  exact .of_fpResult hp hexec

theorem RunsFp.of_fpFromInt {op : Prec → RoundMode → BitVec 32 → Nat × FlagSet} {rs1 : Reg}
    (hp : s.HasPrec p) (hmode : s.resolveRm rm = some mode)
    (hexec : exec i s = .next (s.fpFromInt i p op fd rs1 rm)) :
    RunsFp s i p fd (op p mode (low32 (s.readX rs1))) :=
  .of_withRm (f := fun mode => op p mode _) hp hmode hexec

theorem RunsFp.of_fpConvert {src : Prec} {op : RoundMode → Nat → Nat × FlagSet} (hp : s.HasPrec p)
    (hmode : s.resolveRm rm = some mode)
    (hexec : exec i s = .next (s.fpConvert i src p op fd fs1 rm)) :
    RunsFp s i p fd (op mode (s.rdP src fs1)) :=
  .of_withRm (f := fun mode => op mode _) hp hmode hexec

end

/-! ## Results in the integer file -/

section
variable {s : State} {i : Instr} {p : Prec} {rd fs1 fs2 : Reg} {v : Word} {n : Int} {fl : FlagSet}

theorem OnlyXFlags.fpToX : OnlyXFlags s (s.fpToX rd v fl) rd where
  fields := by
    by_cases hrd : rd = 0#5
    · rw [State.fpToX, hrd, State.writeX_zero]
      rfl
    · rw [State.fpToX, State.writeX_of_ne s v hrd]
      rfl
  regs _ hr := s.readX_writeX_ne v hr
  zero := State.readX_zero _
  bytes _ := congrArg (fun m : Memory => m.read _) (s.writeX_mem rd v)

/-- An instruction that puts a value in `x[rd]` and raises flags. -/
theorem RunsXFlags.of_fpToX (hexec : exec i s = .next (s.fpToX rd v fl))
    (hv : HoldsInt s.xlen (s.xlen.narrow v) n) : RunsXFlags s i rd n fl := by
  refine ⟨_, hexec, .fpToX, fun hrd => ?_, congrArg (· ||| fl) (s.writeX_fflags rd v),
    State.pcAdvanced_advance 4 (s.writeX_xlen rd v) (s.writeX_pc rd v)⟩
  rwa [show (s.fpToX rd v fl).readX rd = _ from s.readX_writeX_self v hrd]

theorem RunsXFlags.of_fpCompare {op : Prec → Nat → Nat → Bool × FlagSet}
    (hexec : exec i s = .next (s.fpCompare p op rd fs1 fs2)) :
    RunsXFlags s i rd (if (op p (s.rdP p fs1) (s.rdP p fs2)).1 then 1 else 0)
      (op p (s.rdP p fs1) (s.rdP p fs2)).2 := by
  refine .of_fpToX hexec ?_
  cases (op p (s.rdP p fs1) (s.rdP p fs2)).1 <;> exact holdsInt_narrow_of_toInt rfl

theorem RunsXFlags.of_fpToInt {op : Prec → RoundMode → Nat → BitVec 32 × FlagSet} {rm : RmField}
    {mode : RoundMode} (hmode : s.resolveRm rm = some mode)
    (hexec : exec i s = .next (s.fpToInt i p op rd fs1 rm)) :
    RunsXFlags s i rd (op p mode (s.rdP p fs1)).1.toInt (op p mode (s.rdP p fs1)).2 := by
  refine .of_fpToX (hexec.trans (congrArg _ (State.withRm_of_resolved i _ hmode)))
    (holdsInt_narrow_of_toInt ?_)
  exact BitVec.toInt_signExtend_of_le (by decide)

/-- The mask of a class. -/
theorem RunsXFlags.of_classify {c : BitVec 10} (hexec : exec i s = .next (s.fpToX rd (zext c) 0#5)) :
    RunsXFlags s i rd c.toNat 0#5 :=
  .of_fpToX hexec (holdsInt_narrow_of_toNat (toNat_zext c (by decide)))

end

end Sys2Proof.Machine
end


section
/-! Rounding (`spec/42_rvfd.md` R231, R234): at a place, and to a format with its flags; and the values of
a format, which round to themselves. -/

namespace Sys2Proof.Machine

/-! ## Rounding at a place -/

section
variable (mode : RoundMode) (neg : Bool) (mant : Nat) {exp q : Int}

/-- A place not above the exponent keeps every digit. -/
theorem roundAt_of_le (h : q ≤ exp) :
    roundAt mode neg mant exp q = (mant * 2 ^ (exp - q).toNat, false) :=
  if_pos h

/-- A place `d` above the exponent cuts `d` digits off. -/
theorem roundAt_add (exp : Int) {d : Nat} (hd : 0 < d) :
    roundAt mode neg mant exp (exp + d) =
      (if roundsAway mode neg (mant / 2 ^ d % 2 == 1) (mant % 2 ^ d) (2 ^ d) then mant / 2 ^ d + 1
        else mant / 2 ^ d, mant % 2 ^ d != 0) := by
  rw [roundAt, if_neg (by omega), show (exp + d - exp).toNat = d by omega]

/-- A magnitude below `2^(q + k)` rounds at `q` to at most `2^k`. -/
theorem roundAt_le {k : Nat} (h : exp + mant.log2 + 1 ≤ q + k) :
    (roundAt mode neg mant exp q).1 ≤ 2 ^ k := by
  by_cases hle : q ≤ exp
  · rw [roundAt_of_le mode neg mant hle]
    calc mant * 2 ^ (exp - q).toNat ≤ 2 ^ (mant.log2 + 1) * 2 ^ (exp - q).toNat :=
          Nat.mul_le_mul_right _ (Nat.le_of_lt Nat.lt_log2_self)
      _ = 2 ^ (mant.log2 + 1 + (exp - q).toNat) := (Nat.pow_add ..).symm
      _ ≤ 2 ^ k := Nat.pow_le_pow_right (by decide) (by omega)
  · obtain ⟨d, rfl⟩ : ∃ d : Nat, q = exp + d := ⟨(q - exp).toNat, by omega⟩
    have hlt : mant / 2 ^ d < 2 ^ k := by
      refine Nat.div_lt_of_lt_mul (Nat.lt_of_lt_of_le Nat.lt_log2_self ?_)
      rw [← Nat.pow_add]
      exact Nat.pow_le_pow_right (by decide) (by omega)
    rw [roundAt_add mode neg mant exp (by omega)]
    dsimp only
    split <;> omega

/-- Where no digit is cut off it stays below. -/
theorem roundAt_lt_of_le {k : Nat} (hq : q ≤ exp) (h : exp + mant.log2 + 1 ≤ q + k) :
    (roundAt mode neg mant exp q).1 < 2 ^ k := by
  rw [roundAt_of_le mode neg mant hq]
  calc mant * 2 ^ (exp - q).toNat < 2 ^ (mant.log2 + 1) * 2 ^ (exp - q).toNat :=
        Nat.mul_lt_mul_of_pos_right Nat.lt_log2_self (Nat.two_pow_pos _)
    _ = 2 ^ (mant.log2 + 1 + (exp - q).toNat) := (Nat.pow_add ..).symm
    _ ≤ 2 ^ k := Nat.pow_le_pow_right (by decide) (by omega)

end

section
variable {mode : RoundMode} {neg odd : Bool} {r w : Nat}

theorem roundsAway_of_exact (hw : 0 < w) : roundsAway mode neg odd 0 w = false := by
  cases mode <;> simp [roundsAway, Nat.ne_of_lt hw, Nat.ne_of_gt hw]

theorem roundsAway_rdn (hr : r ≠ 0) : roundsAway .rdn neg odd r w = neg := by
  simp [roundsAway, hr]

theorem roundsAway_rup (hr : r ≠ 0) : roundsAway .rup neg odd r w = !neg := by
  simp [roundsAway, hr]

theorem roundsAway_rne_iff :
    roundsAway .rne neg odd r w = true ↔ w < 2 * r ∨ (2 * r = w ∧ odd = true) := by
  simp [roundsAway]

theorem roundsAway_rmm_iff : roundsAway .rmm neg odd r w = true ↔ w ≤ 2 * r := by
  simp [roundsAway]

end

/-- A quotient `m` with remainder `r`, taken up when the remainder is over half and kept when it is under,
is within half a unit of the number. -/
theorem nearest_of_split {n m r w k : Nat} (hn : n = m * w + r) (hr : r < w)
    (hk : k = m + 1 ∧ w ≤ 2 * r ∨ k = m ∧ 2 * r ≤ w) :
    2 * n ≤ 2 * k * w + w ∧ 2 * k * w ≤ 2 * n + w := by
  have hexpand : 2 * k * w = 2 * (k * w) := Nat.mul_assoc ..
  obtain ⟨rfl, hhalf⟩ | ⟨rfl, hhalf⟩ := hk
  · rw [Nat.add_mul, Nat.one_mul] at hexpand
    omega
  · omega

section
variable (neg : Bool) (mant : Nat) (exp : Int) {d : Nat}

/-- A number of units of the place loses nothing. -/
theorem roundAt_of_dvd (mode : RoundMode) (hd : 0 < d) (hzero : mant % 2 ^ d = 0) :
    (roundAt mode neg mant exp (exp + d)).1 = mant / 2 ^ d := by
  rw [roundAt_add mode neg mant exp hd, hzero, roundsAway_of_exact (Nat.two_pow_pos d)]
  rfl

/-- To the nearest, a tie to even. -/
theorem roundAt_rne (hd : 0 < d) :
    let k := (roundAt .rne neg mant exp (exp + d)).1
    2 * mant ≤ 2 * k * 2 ^ d + 2 ^ d ∧ 2 * k * 2 ^ d ≤ 2 * mant + 2 ^ d ∧
      (2 * (mant % 2 ^ d) = 2 ^ d → k % 2 = 0) := by
  have hsplit : mant = mant / 2 ^ d * 2 ^ d + mant % 2 ^ d := (Nat.div_add_mod' ..).symm
  have hlt : mant % 2 ^ d < 2 ^ d := Nat.mod_lt _ (Nat.two_pow_pos d)
  rw [roundAt_add .rne neg mant exp hd]
  dsimp only
  split
  next haway =>
    rw [roundsAway_rne_iff, beq_iff_eq] at haway
    obtain ⟨hlow, hhigh⟩ := nearest_of_split hsplit hlt (.inl ⟨rfl, by omega⟩)
    exact ⟨hlow, hhigh, by omega⟩
  next hkeep =>
    rw [roundsAway_rne_iff, beq_iff_eq] at hkeep
    obtain ⟨hlow, hhigh⟩ := nearest_of_split hsplit hlt (.inr ⟨rfl, by omega⟩)
    exact ⟨hlow, hhigh, by omega⟩

/-- To the nearest, a tie to the larger magnitude. -/
theorem roundAt_rmm (hd : 0 < d) :
    let k := (roundAt .rmm neg mant exp (exp + d)).1
    2 * mant ≤ 2 * k * 2 ^ d + 2 ^ d ∧ 2 * k * 2 ^ d ≤ 2 * mant + 2 ^ d ∧
      (2 * (mant % 2 ^ d) = 2 ^ d → k = mant / 2 ^ d + 1) := by
  have hsplit : mant = mant / 2 ^ d * 2 ^ d + mant % 2 ^ d := (Nat.div_add_mod' ..).symm
  have hlt : mant % 2 ^ d < 2 ^ d := Nat.mod_lt _ (Nat.two_pow_pos d)
  rw [roundAt_add .rmm neg mant exp hd]
  dsimp only
  split
  next haway =>
    rw [roundsAway_rmm_iff] at haway
    obtain ⟨hlow, hhigh⟩ := nearest_of_split hsplit hlt (.inl ⟨rfl, haway⟩)
    exact ⟨hlow, hhigh, fun _ => rfl⟩
  next hkeep =>
    rw [roundsAway_rmm_iff] at hkeep
    obtain ⟨hlow, hhigh⟩ := nearest_of_split hsplit hlt (.inr ⟨rfl, by omega⟩)
    exact ⟨hlow, hhigh, by omega⟩

end

/-! ## Rounding to a format -/

/-- The last place that the format keeps of a magnitude. -/
def Prec.lastPlace (p : Prec) (mant : Nat) (exp : Int) : Int :=
  Max.max (exp + mant.log2 - p.fbits) p.qmin

/-- The magnitude that a value rounds to, if it does not overflow. -/
def Prec.roundedMag (p : Prec) (mode : RoundMode) (neg : Bool) (mant : Nat) (exp : Int) : Nat :=
  (Prec.lastPlace p mant exp - p.qmin).toNat * 2 ^ p.fbits +
    (roundAt mode neg mant exp (Prec.lastPlace p mant exp)).1

/-- The value rounded as if the exponent were unbounded, in units of its last place. -/
def Prec.freeMant (p : Prec) (mode : RoundMode) (neg : Bool) (mant : Nat) (exp : Int) : Nat :=
  (roundAt mode neg mant exp (exp + mant.log2 - p.fbits)).1

section
variable (p : Prec) (mode : RoundMode) (neg : Bool) (mant : Nat) (exp : Int)

theorem Prec.withSign_eq (mag : Nat) : p.withSign neg mag = (p.zeroOf neg).1 + mag := by
  cases neg <;> simp [Prec.withSign, Prec.zeroOf, Prec.signBit]

theorem Prec.infMag_eq : p.infMag = (2 ^ p.ebits - 1) * 2 ^ p.fbits := rfl

theorem Prec.infResult_eq : p.infResult neg = p.infOf neg := by
  rw [Prec.infResult, Prec.infOf, Prec.withSign_eq, Prec.infMag_eq]

theorem Prec.nanResult_eq (invalid : Bool) : p.nanResult invalid = p.nanOf invalid := rfl

theorem Prec.zeroResult_eq : (p.withSign neg 0, (0#5 : FlagSet)) = p.zeroOf neg := by
  rw [Prec.withSign_eq]
  rfl

theorem Prec.overflowMag_of_away
    (h : mode = .rne ∨ mode = .rmm ∨ (mode = .rdn ∧ neg = true) ∨ (mode = .rup ∧ neg = false)) :
    p.overflowMag mode neg = p.infMag := by
  obtain rfl | rfl | ⟨rfl, rfl⟩ | ⟨rfl, rfl⟩ := h <;> rfl

theorem Prec.overflowMag_of_not_away
    (h : ¬(mode = .rne ∨ mode = .rmm ∨ (mode = .rdn ∧ neg = true) ∨ (mode = .rup ∧ neg = false))) :
    p.overflowMag mode neg = p.infMag - 1 := by
  cases mode <;> cases neg <;> simp_all [Prec.overflowMag]

/-- The flags of a result that does not overflow. -/
def Prec.smallFlags : FlagSet :=
  let inexact := (roundAt mode neg mant exp (Prec.lastPlace p mant exp)).2
  let lead := exp + mant.log2
  flagIf inexact flagNX ||| flagIf (inexact && (decide (lead < p.emin) &&
    !(decide (lead + 1 = p.emin) && Prec.freeMant p mode neg mant exp == 2 ^ (p.fbits + 1)))) flagUF

/-- `Prec.round` by its parts. -/
theorem Prec.round_eq :
    p.round mode neg mant exp =
      if p.infMag ≤ p.roundedMag mode neg mant exp then
        (p.withSign neg (p.overflowMag mode neg), flagOF ||| flagNX)
      else (p.withSign neg (p.roundedMag mode neg mant exp), p.smallFlags mode neg mant exp) :=
  rfl

theorem Prec.round_of_overflow (h : p.infMag ≤ Prec.roundedMag p mode neg mant exp) :
    p.round mode neg mant exp = (p.withSign neg (p.overflowMag mode neg), flagOF ||| flagNX) := by
  rw [Prec.round_eq, if_pos h]

theorem Prec.round_of_not_overflow (h : ¬p.infMag ≤ Prec.roundedMag p mode neg mant exp) :
    p.round mode neg mant exp =
      (p.withSign neg (Prec.roundedMag p mode neg mant exp), Prec.smallFlags p mode neg mant exp) := by
  rw [Prec.round_eq, if_neg h]

theorem Prec.freeMant_le : Prec.freeMant p mode neg mant exp ≤ 2 ^ (p.fbits + 1) :=
  roundAt_le mode neg mant (by omega)

end

section
variable {p : Prec} {mode : RoundMode} {neg : Bool} {mant : Nat} {exp : Int}

theorem Prec.smallFlags_of_exact
    (hexact : (roundAt mode neg mant exp (Prec.lastPlace p mant exp)).2 = false) :
    Prec.smallFlags p mode neg mant exp = 0#5 := by
  simp [Prec.smallFlags, hexact, flagIf]

/-- Inexact, and not tiny. -/
theorem Prec.smallFlags_of_not_tiny
    (hinexact : (roundAt mode neg mant exp (Prec.lastPlace p mant exp)).2 = true)
    (hnot : p.emin ≤ exp + mant.log2 ∨
      exp + mant.log2 + 1 = p.emin ∧ Prec.freeMant p mode neg mant exp = 2 ^ (p.fbits + 1)) :
    Prec.smallFlags p mode neg mant exp = flagNX := by
  obtain hnormal | ⟨hbinade, hfree⟩ := hnot
  · simp [Prec.smallFlags, hinexact, flagIf, Int.not_lt.2 hnormal]
  · simp [Prec.smallFlags, hinexact, flagIf, hbinade, hfree]

/-- Inexact and tiny. -/
theorem Prec.smallFlags_of_tiny
    (hinexact : (roundAt mode neg mant exp (Prec.lastPlace p mant exp)).2 = true)
    (hlead : exp + mant.log2 < p.emin)
    (htiny : exp + mant.log2 + 1 = p.emin → Prec.freeMant p mode neg mant exp ≠ 2 ^ (p.fbits + 1)) :
    Prec.smallFlags p mode neg mant exp = flagUF ||| flagNX := by
  have hnot : (decide (exp + mant.log2 + 1 = p.emin) &&
      Prec.freeMant p mode neg mant exp == 2 ^ (p.fbits + 1)) = false := by
    simpa using htiny
  simp [Prec.smallFlags, hinexact, hlead, hnot, flagIf, BitVec.or_comm]

/-- No digit is cut off and the magnitude fits: the result is the value, with no flag. -/
theorem Prec.round_of_exact (hq : Prec.lastPlace p mant exp ≤ exp)
    (hfits : Prec.roundedMag p mode neg mant exp < p.infMag) :
    p.round mode neg mant exp = (p.withSign neg (Prec.roundedMag p mode neg mant exp), 0#5) := by
  rw [Prec.round_of_not_overflow p mode neg mant exp (Nat.not_le.2 hfits),
    Prec.smallFlags_of_exact (by rw [roundAt_of_le mode neg mant hq])]

end

/-- Settles O56: rounding at a place, then the three outcomes of rounding to a format. -/
theorem roundingAtAPlace : Obligations.RoundingAtAPlace := by
  refine ⟨fun mode neg mant exp q hq => roundAt_of_le mode neg mant hq,
    fun mode neg mant d exp hd => ?place, fun p mode neg mant exp hmant => ?format⟩
  case place =>
    refine ⟨?_, roundAt_of_dvd neg mant exp mode hd, fun hne => ⟨?_, ?_, ?_, ?_, ?_⟩⟩
    · rw [roundAt_add mode neg mant exp hd]
      exact bne_iff_ne
    · rintro rfl
      rw [roundAt_add .rtz neg mant exp hd]
      rfl
    · rintro rfl
      rw [roundAt_add .rdn neg mant exp hd, roundsAway_rdn hne]
    · rintro rfl
      rw [roundAt_add .rup neg mant exp hd, roundsAway_rup hne]
      cases neg <;> rfl
    · rintro rfl
      exact roundAt_rne neg mant exp hd
    · rintro rfl
      exact roundAt_rmm neg mant exp hd
  case format =>
    refine ⟨fun (hinf : p.infMag ≤ p.roundedMag mode neg mant exp) haway => ?_,
      fun (hinf : p.infMag ≤ p.roundedMag mode neg mant exp) haway => ?_,
      fun (hfits : p.roundedMag mode neg mant exp < p.infMag) => ?_⟩
    · rw [Prec.round_of_overflow p mode neg mant exp hinf, Prec.overflowMag_of_away p mode neg haway,
        Prec.withSign_eq, Prec.infMag_eq]
    · rw [Prec.round_of_overflow p mode neg mant exp hinf, Prec.overflowMag_of_not_away p mode neg haway,
        Prec.withSign_eq, Prec.infMag_eq]
    · rw [Prec.round_of_not_overflow p mode neg mant exp (Nat.not_le.2 hfits)]
      refine ⟨Prec.withSign_eq .., Prec.smallFlags_of_exact, fun hin hlead => ?_, fun hin hlead => ?_,
        fun hin hlead => ⟨fun hfree => ?_, fun hfree => ?_⟩⟩
      · exact Prec.smallFlags_of_not_tiny hin (.inl hlead)
      · exact Prec.smallFlags_of_tiny hin (by omega) (fun h => by omega)
      · exact Prec.smallFlags_of_tiny hin (by omega) (fun _ => Nat.ne_of_lt hfree)
      · exact Prec.smallFlags_of_not_tiny hin (.inr ⟨hlead, Nat.le_antisymm (Prec.freeMant_le ..) hfree⟩)

/-! ## The values of a format -/

/-- `v` is the pattern of the finite value `(-1)^neg * m * 2^e`: the exponent is the least that the
format allows, or the mantissa has its leading bit. -/
structure Prec.IsFinite (p : Prec) (v : Nat) (neg : Bool) (m : Nat) (e : Int) : Prop where
  sign : p.negOf v = neg
  qmin_le : p.qmin ≤ e
  mag : p.magOf v = (e - p.qmin).toNat * 2 ^ p.fbits + m
  mant_lt : m < 2 ^ (p.fbits + 1)
  normal : 2 ^ p.fbits ≤ m ∨ e = p.qmin
  below_inf : p.magOf v < p.infMag

section
variable (p : Prec) (v : Nat)

theorem Prec.magOf_lt : p.magOf v < 2 ^ (p.ebits + p.fbits) := Nat.mod_lt _ (Nat.two_pow_pos _)

theorem Prec.expField_le : p.magOf v / 2 ^ p.fbits ≤ p.expMax := by
  have hlt : p.magOf v / 2 ^ p.fbits < 2 ^ p.ebits := by
    refine Nat.div_lt_of_lt_mul ?_
    rw [← Nat.pow_add, Nat.add_comm]
    exact p.magOf_lt v
  rw [Prec.expMax]
  omega

/-- The value of a pattern whose exponent field is not full. -/
theorem Prec.isFinite_of_unpack {neg : Bool} {m : Nat} {e : Int} (h : p.unpack v = .finite neg m e) :
    p.IsFinite v neg m e := by
  have hsplit : p.magOf v / 2 ^ p.fbits * 2 ^ p.fbits + p.magOf v % 2 ^ p.fbits = p.magOf v :=
    Nat.div_add_mod' ..
  have hlt : p.magOf v % 2 ^ p.fbits < 2 ^ p.fbits := Nat.mod_lt _ (Nat.two_pow_pos _)
  have hpow : 2 ^ (p.fbits + 1) = 2 ^ p.fbits + 2 ^ p.fbits := by rw [Nat.pow_succ, Nat.mul_two]
  have hle := p.expField_le v
  have hbelow : p.magOf v / 2 ^ p.fbits ≠ p.expMax → p.magOf v < p.infMag := fun hne =>
    (Nat.div_lt_iff_lt_mul (Nat.two_pow_pos _)).1 (Nat.lt_of_le_of_ne hle hne)
  simp only [Prec.unpack] at h
  split at h
  next => split at h <;> cases h
  next hfin =>
    split at h
    next hsub =>
      cases h
      rw [hsub, Nat.zero_mul, Nat.zero_add] at hsplit
      exact ⟨rfl, Int.le_refl _, by simp [hsplit], by omega, .inr rfl, hbelow hfin⟩
    next hnormal =>
      cases h
      obtain ⟨k, hk⟩ : ∃ k, p.magOf v / 2 ^ p.fbits = k + 1 := Nat.exists_eq_succ_of_ne_zero hnormal
      have he : p.qmin + ((p.magOf v / 2 ^ p.fbits : Nat) - 1 : Int) = p.qmin + k := by
        rw [hk]
        omega
      rw [he]
      rw [hk, Nat.add_mul, Nat.one_mul] at hsplit
      refine ⟨rfl, by omega, ?_, by omega, .inl (by omega), hbelow hfin⟩
      rw [show (p.qmin + k - p.qmin).toNat = k by omega]
      omega

end

section
variable {p : Prec} {v : Nat} {neg : Bool} {m : Nat} {e : Int}

theorem Prec.IsFinite.lastPlace_eq (h : p.IsFinite v neg m e) (hm : m ≠ 0) : Prec.lastPlace p m e = e := by
  have hlog : m.log2 < p.fbits + 1 := (Nat.log2_lt hm).2 h.mant_lt
  rw [Prec.lastPlace]
  obtain hnormal | rfl := h.normal
  · have hle : p.fbits ≤ m.log2 := (Nat.le_log2 hm).2 hnormal
    have := h.qmin_le
    omega
  · omega

theorem Prec.IsFinite.roundedMag_eq (h : p.IsFinite v neg m e) (hm : m ≠ 0) (mode : RoundMode) (n : Bool) :
    Prec.roundedMag p mode n m e = p.magOf v := by
  rw [Prec.roundedMag, h.lastPlace_eq hm, roundAt_of_le mode n m (Int.le_refl _), h.mag, Int.sub_self]
  simp

/-- A pattern is its sign and its magnitude. -/
theorem Prec.withSign_negOf_magOf (hv : v < 2 ^ (p.ebits + p.fbits + 1)) :
    p.withSign (p.negOf v) (p.magOf v) = v := by
  have hsplit : v / p.signBit * p.signBit + v % p.signBit = v := Nat.div_add_mod' ..
  have hlt : v / p.signBit < 2 := by
    refine Nat.div_lt_of_lt_mul ?_
    rwa [Prec.signBit, ← Nat.pow_succ]
  rw [Prec.withSign, Prec.negOf, Prec.magOf]
  obtain hzero | hone := Nat.le_one_iff_eq_zero_or_eq_one.1 (Nat.le_of_lt_succ hlt)
  · rw [hzero, Nat.zero_mul, Nat.zero_add] at hsplit
    simp [hzero, hsplit]
  · rw [hone, Nat.one_mul] at hsplit
    simp [hone, hsplit]

end

/-- Settles O57: the last place of a value of the format is its own exponent. -/
theorem representableRoundsToItself : Obligations.RepresentableRoundsToItself := by
  intro p mode v neg m e hv hunpack hm
  have hfinite := p.isFinite_of_unpack v hunpack
  have hmag := hfinite.roundedMag_eq hm mode neg
  rw [Prec.round_of_exact (Int.le_of_eq (hfinite.lastPlace_eq hm)) (hmag ▸ hfinite.below_inf), hmag,
    ← hfinite.sign, Prec.withSign_negOf_magOf hv]

end Sys2Proof.Machine
end


section
/-! Floating-point arithmetic: the functions of the reference `FP_NUMERICS` (`spec/42_rvfd.md` R234)
against the exact operations, and the 18 instructions (R240 to R248). -/

namespace Sys2Proof.Machine

section
variable {p : Prec} {mode : RoundMode}

/-! ## Sums -/

theorem sumIs_addFinite (n1 : Bool) (m1 : Nat) (e1 : Int) (n2 : Bool) (m2 : Nat) (e2 : Int) :
    SumIs p mode (.finite n1 m1 e1) (.finite n2 m2 e2) (p.addFinite mode n1 m1 e1 n2 m2 e2) :=
  ⟨fun hzero => (if_pos hzero).trans (p.zeroResult_eq _), fun hne => if_neg hne⟩

theorem sumIs_add (p : Prec) (mode : RoundMode) (a b : Nat) :
    SumIs p mode (p.unpack a) (p.unpack b) (p.add mode a b) := by
  unfold Prec.add
  cases p.unpack a with
  | nan s =>
    cases p.unpack b with
    | nan _ => rfl
    | inf _ | finite _ _ _ => exact congrArg p.nanOf (Bool.or_false s)
  | inf n =>
    cases p.unpack b with
    | nan _ => rfl
    | inf m =>
      refine (ite_congr rfl (fun _ => p.infResult_eq n) fun _ => rfl)
    | finite _ _ _ => exact p.infResult_eq n
  | finite n1 m1 e1 =>
    cases p.unpack b with
    | nan _ => rfl
    | inf m => exact p.infResult_eq m
    | finite n2 m2 e2 => exact sumIs_addFinite ..

/-! ## Products -/

theorem roundOrZero_zero (neg : Bool) (e : Int) : p.roundOrZero mode neg 0 e = p.zeroOf neg :=
  (if_pos rfl).trans (p.zeroResult_eq neg)

theorem roundOrZero_of_ne {m : Nat} (hm : m ≠ 0) (neg : Bool) (e : Int) :
    p.roundOrZero mode neg m e = p.round mode neg m e :=
  if_neg hm

theorem productIs_mul (p : Prec) (mode : RoundMode) (a b : Nat) :
    ProductIs p mode (p.unpack a) (p.unpack b) (p.mul mode a b) := by
  unfold Prec.mul ProductIs
  cases p.unpack a with
  | nan s =>
    cases p.unpack b <;> simp [FpVal.product, FpVal.isNaN, FpVal.isSignaling, p.nanResult_eq]
  | inf n =>
    cases p.unpack b with
    | nan _ => simp [FpVal.product, FpVal.isNaN, FpVal.isSignaling, p.nanResult_eq]
    | inf m => exact p.infResult_eq _
    | finite n2 m2 _ =>
      by_cases hm : m2 = 0
      · simp [FpVal.product, FpVal.isNaN, hm, p.nanResult_eq]
      · simp [FpVal.product, FpVal.sign, hm, p.infResult_eq]
  | finite n1 m1 e1 =>
    cases p.unpack b with
    | nan _ => simp [FpVal.product, FpVal.isNaN, FpVal.isSignaling, p.nanResult_eq]
    | inf m =>
      by_cases hm : m1 = 0
      · simp [FpVal.product, FpVal.isNaN, hm, p.nanResult_eq]
      · simp [FpVal.product, FpVal.sign, hm, p.infResult_eq]
    | finite n2 m2 e2 =>
      dsimp only
      exact ⟨fun hzero => by rw [hzero, roundOrZero_zero], fun hne => roundOrZero_of_ne hne _ _⟩

/-! ## Fused operations -/

/-- The sign that a pattern has is the sign of its value, unless that is a NaN. -/
theorem Prec.sign_unpack (p : Prec) (a : Nat) (h : (p.unpack a).isNaN = false) :
    (p.unpack a).sign = p.negOf a := by
  unfold Prec.unpack at *
  dsimp only at *
  split
  next hfull =>
    split
    next => rfl
    next hm => simp [hfull, hm, FpVal.isNaN] at h
  next =>
    split <;> rfl

theorem fusedIs_fma (p : Prec) (mode : RoundMode) (a b c : Nat) :
    FusedIs p mode (p.unpack a) (p.unpack b) (p.unpack c) (p.fma mode a b c) := by
  have ha := p.sign_unpack a
  have hb := p.sign_unpack b
  have hc := p.sign_unpack c
  unfold Prec.fma FusedIs
  generalize p.unpack a = x at ha
  generalize p.unpack b = y at hb
  generalize p.unpack c = z at hc
  cases x with
  | nan s =>
    cases y <;> simp [FpVal.product, FpVal.isNaN, FpVal.isSignaling, p.nanResult_eq]
  | inf n =>
    rw [← ha rfl]
    cases y with
    | nan _ => simp [FpVal.product, FpVal.isNaN, FpVal.isSignaling, p.nanResult_eq]
    | inf m =>
      rw [← hb rfl]
      cases z <;>
        simp [SumIs, FpVal.product, FpVal.isNaN, FpVal.isSignaling, FpVal.sign, p.nanResult_eq, p.infResult_eq]
    | finite n2 m2 _ =>
      rw [← hb rfl]
      by_cases hm : m2 = 0
      · simp [FpVal.product, FpVal.isNaN, FpVal.isSignaling, hm, p.nanResult_eq]
      · have hbeq : (m2 == 0) = false := beq_false_of_ne hm
        cases z <;>
          simp [SumIs, FpVal.product, FpVal.isNaN, FpVal.isSignaling, FpVal.sign, hm, hbeq, p.nanResult_eq,
            p.infResult_eq]
  | finite n1 m1 e1 =>
    rw [← ha rfl]
    cases y with
    | nan _ => simp [FpVal.product, FpVal.isNaN, FpVal.isSignaling, p.nanResult_eq]
    | inf m =>
      rw [← hb rfl]
      by_cases hm : m1 = 0
      · simp [FpVal.product, FpVal.isNaN, FpVal.isSignaling, hm, p.nanResult_eq]
      · have hbeq : (m1 == 0) = false := beq_false_of_ne hm
        cases z <;>
          simp [SumIs, FpVal.product, FpVal.isNaN, FpVal.isSignaling, FpVal.sign, hm, hbeq, p.nanResult_eq,
            p.infResult_eq]
    | finite n2 m2 e2 =>
      rw [← hb rfl]
      cases z with
      | nan _ => simp [SumIs, FpVal.product, FpVal.isNaN, FpVal.isSignaling, p.nanResult_eq]
      | inf k =>
        rw [← hc rfl]
        exact p.infResult_eq k
      | finite n3 m3 e3 => exact sumIs_addFinite ..

/-! ## Quotients -/

/-- The dividend is shifted until the quotient has more digits than the format. -/
theorem two_pow_mul_le_shifted (p : Prec) {m1 : Nat} (h1 : m1 ≠ 0) (m2 : Nat) :
    2 ^ (p.fbits + 2) * m2 ≤ m1 * 2 ^ (p.fbits + 4 + m2.log2) := by
  calc 2 ^ (p.fbits + 2) * m2 ≤ 2 ^ (p.fbits + 2) * 2 ^ (m2.log2 + 1) :=
        Nat.mul_le_mul_left _ (Nat.le_of_lt Nat.lt_log2_self)
    _ = 2 ^ (p.fbits + 3 + m2.log2) := by rw [← Nat.pow_add]; congr 1; omega
    _ ≤ 2 ^ (p.fbits + 4 + m2.log2) := Nat.pow_le_pow_right (by decide) (by omega)
    _ ≤ m1 * 2 ^ (p.fbits + 4 + m2.log2) := Nat.le_mul_of_pos_left _ (Nat.pos_of_ne_zero h1)

theorem two_pow_le_quotient {num d : Nat} (hd : 0 < d) (hbig : 2 ^ (p.fbits + 2) * d ≤ num) :
    2 ^ (p.fbits + 2) ≤ num / d ∧ 0 < num / d := by
  have hle := (Nat.le_div_iff_mul_le hd).2 hbig
  exact ⟨hle, Nat.lt_of_lt_of_le (Nat.two_pow_pos _) hle⟩

/-- A quotient cut off, with one more bit for the remainder, stands for the quotient. -/
theorem standsFor_quotient {num d : Nat} (hd : 0 < d) (hbig : 2 ^ (p.fbits + 2) * d ≤ num) :
    StandsFor p (2 * (num / d) + (if num % d = 0 then 0 else 1)) (fun k => compare (k * d) (2 * num)) := by
  have hsplit : num / d * d + num % d = num := Nat.div_add_mod' ..
  have hlt : num % d < d := Nat.mod_lt _ hd
  have hexpand : ∀ k, (2 * (num / d) + k) * d = 2 * (num / d * d) + k * d :=
    fun k => by rw [Nat.add_mul, Nat.mul_assoc]
  by_cases hzero : num % d = 0
  · refine .inl (Nat.compare_eq_eq.2 ?_)
    rw [if_pos hzero, hexpand]
    omega
  · rw [if_neg hzero]
    have hquot := two_pow_le_quotient hd hbig
    have hpow : 2 ^ (p.fbits + 3) = 2 * 2 ^ (p.fbits + 2) := Nat.pow_succ' ..
    refine .inr ⟨by omega, by omega, Nat.compare_eq_lt.2 ?_, Nat.compare_eq_gt.2 ?_⟩
    · rw [show 2 * (num / d) + 1 - 1 = 2 * (num / d) + 0 by omega, hexpand]
      omega
    · rw [show 2 * (num / d) + 1 + 1 = 2 * (num / d) + 2 by omega, hexpand]
      omega

theorem quotientIs_div (p : Prec) (mode : RoundMode) (a b : Nat) :
    QuotientIs p mode (p.unpack a) (p.unpack b) (p.div mode a b) := by
  unfold Prec.div
  cases p.unpack a with
  | nan s =>
    cases p.unpack b with
    | nan _ => rfl
    | inf _ | finite _ _ _ => exact congrArg p.nanOf (Bool.or_false s)
  | inf n =>
    cases p.unpack b with
    | nan _ | inf _ => rfl
    | finite n2 _ _ => exact p.infResult_eq _
  | finite n1 m1 e1 =>
    cases p.unpack b with
    | nan _ => rfl
    | inf m => exact p.zeroResult_eq _
    | finite n2 m2 e2 =>
      refine ⟨fun h1 h2 => ?_, fun h1 h2 => ?_, fun h1 h2 => ?_, fun h1 h2 => ?_⟩
      · simp [h1, h2, p.nanResult_eq]
      · simp only [h1, h2, if_true, if_false, Prec.withSign_eq, Prec.infMag_eq]
        rfl
      · simp [h1, h2, roundOrZero_zero]
      · have hd : 0 < m2 := Nat.pos_of_ne_zero h2
        have hnum := two_pow_mul_le_shifted p h1 m2
        have hquot := two_pow_le_quotient hd hnum
        dsimp only
        rw [if_neg h2]
        refine ⟨_, p.fbits + 4 + m2.log2 + 1, ?_,
          (roundOrZero_of_ne (by omega) _ _).trans (congrArg (p.round mode _ _) (by omega))⟩
        rw [Nat.pow_succ', Nat.mul_left_comm]
        exact standsFor_quotient hd hnum

/-! ## Square roots -/

/-- Bit by bit the root stays below the number and within the bits still to come. -/
theorem isqrtFrom_spec (n : Nat) :
    ∀ (bits root : Nat), root * root ≤ n → n < (root + 2 ^ bits) * (root + 2 ^ bits) →
    isqrtFrom n bits root * isqrtFrom n bits root ≤ n ∧
    n < (isqrtFrom n bits root + 1) * (isqrtFrom n bits root + 1)
  | 0, root, hle, hlt => ⟨hle, hlt⟩
  | i + 1, root, hle, hlt => by
    rw [isqrtFrom]
    split
    next htake =>
      refine isqrtFrom_spec n i _ htake ?_
      rwa [Nat.add_assoc, ← Nat.two_mul, ← Nat.pow_succ']
    next hskip => exact isqrtFrom_spec n i _ hle (Nat.lt_of_not_le hskip)

theorem isqrt_spec (n : Nat) : isqrt n * isqrt n ≤ n ∧ n < (isqrt n + 1) * (isqrt n + 1) := by
  refine isqrtFrom_spec n _ 0 (Nat.zero_le n) ?_
  rw [Nat.zero_add, ← Nat.pow_add]
  exact Nat.lt_of_lt_of_le Nat.lt_log2_self (Nat.pow_le_pow_right (by decide) (by omega))

theorem mul_two_pow_add_two (m k : Nat) : m * 2 ^ (k + 2) = 4 * (m * 2 ^ k) := by
  rw [Nat.pow_succ', Nat.pow_succ', Nat.mul_left_comm m, Nat.mul_left_comm m]
  omega

/-- A root cut off, with one more bit for the remainder, stands for the root. -/
theorem standsFor_isqrt {num : Nat} (hbig : 2 ^ (p.fbits + 2) * 2 ^ (p.fbits + 2) ≤ num) :
    StandsFor p (2 * isqrt num + (if isqrt num * isqrt num = num then 0 else 1))
      (fun k => compare (k * k) (4 * num)) := by
  obtain ⟨hle, hlt⟩ := isqrt_spec num
  have hroot : 2 ^ (p.fbits + 2) < isqrt num + 1 :=
    Nat.mul_self_lt_mul_self_iff.1 (Nat.lt_of_le_of_lt hbig hlt)
  have hexpand : (isqrt num + 1) * (isqrt num + 1) = isqrt num * isqrt num + 2 * isqrt num + 1 := by
    rw [Nat.add_mul, Nat.mul_add]
    omega
  have hsquare : (2 * isqrt num) * (2 * isqrt num) = 4 * (isqrt num * isqrt num) :=
    Nat.mul_mul_mul_comm ..
  by_cases hexact : isqrt num * isqrt num = num
  · refine .inl (Nat.compare_eq_eq.2 ?_)
    rw [if_pos hexact, Nat.add_zero, hsquare, hexact]
  · rw [if_neg hexact]
    have hpow : 2 ^ (p.fbits + 3) = 2 * 2 ^ (p.fbits + 2) := Nat.pow_succ' ..
    refine .inr ⟨by omega, by omega, Nat.compare_eq_lt.2 ?_, Nat.compare_eq_gt.2 ?_⟩
    · rw [Nat.add_sub_cancel, hsquare]
      omega
    · rw [show 2 * isqrt num + 1 + 1 = 2 * (isqrt num + 1) by omega,
        show 2 * (isqrt num + 1) * (2 * (isqrt num + 1)) = 4 * ((isqrt num + 1) * (isqrt num + 1)) from
          Nat.mul_mul_mul_comm ..]
      omega

theorem rootIs_sqrt (p : Prec) (mode : RoundMode) (a : Nat) :
    RootIs p mode (p.unpack a) (p.sqrt mode a) := by
  unfold Prec.sqrt
  cases p.unpack a with
  | nan s => rfl
  | inf n => cases n with
    | true => rfl
    | false => exact p.infResult_eq false
  | finite n m e =>
    refine ⟨fun hm => ?_, fun hm hn => ?_, fun hm hn => ?_⟩
    · simp only [hm, if_true]
      exact p.zeroResult_eq n
    · simp [hm, hn, p.nanResult_eq]
    · have hnum : 2 ^ (p.fbits + 2) * 2 ^ (p.fbits + 2) ≤ m * 2 ^ (2 * (p.fbits + 4) + (e % 2).toNat) := by
        rw [← Nat.pow_add]
        exact Nat.le_trans (Nat.pow_le_pow_right (by decide) (by omega))
          (Nat.le_mul_of_pos_left _ (Nat.pos_of_ne_zero hm))
      dsimp only
      rw [if_neg hm, if_neg (by simp [hn])]
      refine ⟨_, 2 * (p.fbits + 4) + (e % 2).toNat + 2, _, ?_, ?_, rfl⟩
      · have hparity := Int.emod_emod_of_dvd e (Int.dvd_refl 2)
        omega
      · rw [mul_two_pow_add_two]
        exact standsFor_isqrt hnum

/-! ## Negation -/

theorem Prec.neg_eq (p : Prec) {a : Nat} (ha : a < 2 * 2 ^ (p.ebits + p.fbits)) :
    p.neg a = if a < 2 ^ (p.ebits + p.fbits) then a + 2 ^ (p.ebits + p.fbits)
      else a - 2 ^ (p.ebits + p.fbits) := by
  rw [Prec.neg, Prec.negOf, Prec.magOf, Prec.withSign, Prec.signBit]
  by_cases hlow : a < 2 ^ (p.ebits + p.fbits)
  · simp [hlow, Nat.div_eq_of_lt hlow, Nat.mod_eq_of_lt hlow, Nat.add_comm]
  · have hdiv : a / 2 ^ (p.ebits + p.fbits) = 1 := Nat.div_eq_of_lt_le (by omega) (by omega)
    have hmod : a % 2 ^ (p.ebits + p.fbits) = a - 2 ^ (p.ebits + p.fbits) := by
      rw [Nat.mod_eq_sub_mod (by omega), Nat.mod_eq_of_lt (by omega)]
    simp [hlow, hdiv, hmod]

end

/-! ## The instructions -/

/-- Settles O51: the instructions by their shape, the reference functions one by one. -/
theorem fpArithmetic : Obligations.FpArithmetic := by
  refine ⟨fun s fd fs1 fs2 fs3 rm mode hmode => ⟨fun hF => ?single, fun hD => ?double,
    State.numerics_of_ieee⟩, fun p mode a b c => ?reference⟩
  case single =>
    exact ⟨.of_fpFma hF hmode (congrArg _ (State.listed_of_unless hF _ rfl)) rfl rfl,
      .of_fpFma hF hmode (congrArg _ (State.listed_of_unless hF _ rfl)) rfl rfl,
      .of_fpFma hF hmode (congrArg _ (State.listed_of_unless hF _ rfl)) rfl (by cases s.cfg.fnm <;> rfl),
      .of_fpFma hF hmode (congrArg _ (State.listed_of_unless hF _ rfl)) rfl (by cases s.cfg.fnm <;> rfl),
      .of_fpArith hF hmode (congrArg _ (State.listed_of_unless hF _ rfl)),
      .of_fpArith hF hmode (congrArg _ (State.listed_of_unless hF _ rfl)),
      .of_fpArith hF hmode (congrArg _ (State.listed_of_unless hF _ rfl)),
      .of_fpArith hF hmode (congrArg _ (State.listed_of_unless hF _ rfl)),
      .of_fpSqrt hF hmode (congrArg _ (State.listed_of_unless hF _ rfl))⟩
  case double =>
    exact ⟨.of_fpFma hD hmode (congrArg _ (State.listed_of_unless hD _ rfl)) rfl rfl,
      .of_fpFma hD hmode (congrArg _ (State.listed_of_unless hD _ rfl)) rfl rfl,
      .of_fpFma hD hmode (congrArg _ (State.listed_of_unless hD _ rfl)) rfl (by cases s.cfg.fnm <;> rfl),
      .of_fpFma hD hmode (congrArg _ (State.listed_of_unless hD _ rfl)) rfl (by cases s.cfg.fnm <;> rfl),
      .of_fpArith hD hmode (congrArg _ (State.listed_of_unless hD _ rfl)),
      .of_fpArith hD hmode (congrArg _ (State.listed_of_unless hD _ rfl)),
      .of_fpArith hD hmode (congrArg _ (State.listed_of_unless hD _ rfl)),
      .of_fpArith hD hmode (congrArg _ (State.listed_of_unless hD _ rfl)),
      .of_fpSqrt hD hmode (congrArg _ (State.listed_of_unless hD _ rfl))⟩
  case reference =>
    exact ⟨sumIs_add p mode a b, rfl, productIs_mul p mode a b, quotientIs_div p mode a b,
      rootIs_sqrt p mode a, fusedIs_fma p mode a b c, p.neg_eq⟩

end Sys2Proof.Machine
end


section
/-! Sign injection, minimum and maximum, comparison and classification (`spec/42_rvfd.md` R249 to R257):
the order of the patterns is the order of their values. -/

namespace Sys2Proof.Machine

/-! ## Sign injection -/

theorem State.rdP_lt (s : State) (p : Prec) (r : Reg) : s.rdP p r < 2 * p.signBit := by
  cases p with
  | single => exact (s.rdS r).isLt
  | double => exact (s.rdD r).isLt

section
variable (p : Prec) {a b : Nat}

theorem Prec.signBit_pos : 0 < p.signBit := Nat.two_pow_pos _

theorem Prec.div_signBit (hb : b < 2 * p.signBit) : b / p.signBit = (p.negOf b).toNat := by
  have hlt : b / p.signBit < 2 := (Nat.div_lt_iff_lt_mul p.signBit_pos).2 hb
  rw [Prec.negOf]
  obtain hzero | hone := Nat.le_one_iff_eq_zero_or_eq_one.1 (Nat.le_of_lt_succ hlt)
  · rw [hzero]; rfl
  · rw [hone]; rfl

theorem Prec.withSign_eq_toNat (neg : Bool) (mag : Nat) :
    p.withSign neg mag = neg.toNat * p.signBit + mag := by
  cases neg <;> simp [Prec.withSign]

theorem Prec.withSign_negOf (hb : b < 2 * p.signBit) :
    p.withSign (p.negOf b) (p.magOf a) = b / p.signBit * p.signBit + a % p.signBit := by
  rw [p.withSign_eq_toNat, p.div_signBit hb, Prec.magOf]

theorem Prec.withSign_not_negOf (hb : b < 2 * p.signBit) :
    p.withSign (!p.negOf b) (p.magOf a) = (1 - b / p.signBit) * p.signBit + a % p.signBit := by
  have hnot : ∀ n : Bool, (!n).toNat = 1 - n.toNat := by decide
  rw [p.withSign_eq_toNat, p.div_signBit hb, hnot, Prec.magOf]

theorem Prec.withSign_xor_negOf (ha : a < 2 * p.signBit) (hb : b < 2 * p.signBit) :
    p.withSign (p.negOf a != p.negOf b) (p.magOf a) =
      (a / p.signBit + b / p.signBit) % 2 * p.signBit + a % p.signBit := by
  have hxor : ∀ m n : Bool, (m != n).toNat = (m.toNat + n.toNat) % 2 := by decide
  rw [p.withSign_eq_toNat, p.div_signBit ha, p.div_signBit hb, hxor, Prec.magOf]

end

/-! ## The order of the values -/

section
variable {p : Prec} {v w : Nat} {n1 n2 : Bool} {m1 m2 : Nat} {e1 e2 : Int}

/-- A finite magnitude in units of the least place of the format. -/
def Prec.units (p : Prec) (m : Nat) (e : Int) : Nat := m * 2 ^ (e - p.qmin).toNat

/-- Of two finite magnitudes the one with the larger exponent is the larger. -/
theorem Prec.IsFinite.mag_lt_of_exp_lt (hv : p.IsFinite v n1 m1 e1) (hw : p.IsFinite w n2 m2 e2)
    (h : e1 < e2) : p.magOf v < p.magOf w := by
  have hqmin := hv.qmin_le
  have hnormal : 2 ^ p.fbits ≤ m2 := hw.normal.resolve_right (by omega)
  have hmant := hv.mant_lt
  rw [Nat.pow_succ, Nat.mul_two] at hmant
  have hstep : ((e1 - p.qmin).toNat + 1) * 2 ^ p.fbits ≤ (e2 - p.qmin).toNat * 2 ^ p.fbits :=
    Nat.mul_le_mul_right _ (by omega)
  rw [Nat.add_mul, Nat.one_mul] at hstep
  rw [hv.mag, hw.mag]
  omega

theorem Prec.IsFinite.units_lt_units (hv : p.IsFinite v n1 m1 e1) (hw : p.IsFinite w n2 m2 e2)
    (h : p.magOf v < p.magOf w) : p.units m1 e1 < p.units m2 e2 := by
  obtain hlt | rfl | hgt := Int.lt_trichotomy e1 e2
  · have hqmin := hv.qmin_le
    have hnormal : 2 ^ p.fbits ≤ m2 := hw.normal.resolve_right (by omega)
    calc m1 * 2 ^ (e1 - p.qmin).toNat < 2 ^ (p.fbits + 1) * 2 ^ (e1 - p.qmin).toNat :=
          Nat.mul_lt_mul_of_pos_right hv.mant_lt (Nat.two_pow_pos _)
      _ = 2 ^ (p.fbits + 1 + (e1 - p.qmin).toNat) := (Nat.pow_add ..).symm
      _ ≤ 2 ^ (p.fbits + (e2 - p.qmin).toNat) := Nat.pow_le_pow_right (by decide) (by omega)
      _ = 2 ^ p.fbits * 2 ^ (e2 - p.qmin).toNat := Nat.pow_add ..
      _ ≤ m2 * 2 ^ (e2 - p.qmin).toNat := Nat.mul_le_mul_right _ hnormal
  · rw [hv.mag, hw.mag] at h
    exact Nat.mul_lt_mul_of_pos_right (by omega) (Nat.two_pow_pos _)
  · exact absurd (hw.mag_lt_of_exp_lt hv hgt) (Nat.lt_asymm h)

theorem Prec.IsFinite.units_eq_units (hv : p.IsFinite v n1 m1 e1) (hw : p.IsFinite w n2 m2 e2)
    (h : p.magOf v = p.magOf w) : p.units m1 e1 = p.units m2 e2 := by
  obtain hlt | rfl | hgt := Int.lt_trichotomy e1 e2
  · exact absurd (hv.mag_lt_of_exp_lt hw hlt) (Nat.not_lt.2 (Nat.le_of_eq h.symm))
  · rw [hv.mag, hw.mag] at h
    rw [show m1 = m2 by omega]
  · exact absurd (hw.mag_lt_of_exp_lt hv hgt) (Nat.not_lt.2 (Nat.le_of_eq h))

/-- Finite magnitudes are in the order of their patterns. -/
theorem Prec.IsFinite.units_lt_iff (hv : p.IsFinite v n1 m1 e1) (hw : p.IsFinite w n2 m2 e2) :
    p.units m1 e1 < p.units m2 e2 ↔ p.magOf v < p.magOf w := by
  refine ⟨fun h => Nat.lt_of_not_le fun hge => ?_, hv.units_lt_units hw⟩
  obtain hgt | heq := Nat.lt_or_eq_of_le hge
  · exact Nat.lt_asymm h (hw.units_lt_units hv hgt)
  · exact Nat.ne_of_gt h (hw.units_eq_units hv heq)

theorem Prec.IsFinite.units_eq_zero_iff (hv : p.IsFinite v n1 m1 e1) :
    p.units m1 e1 = 0 ↔ p.magOf v = 0 := by
  rw [hv.mag, Prec.units, Nat.mul_eq_zero, Nat.add_eq_zero_iff, Nat.mul_eq_zero]
  have hf : 2 ^ p.fbits ≠ 0 := Nat.ne_of_gt (Nat.two_pow_pos _)
  have hd : 2 ^ (e1 - p.qmin).toNat ≠ 0 := Nat.ne_of_gt (Nat.two_pow_pos _)
  have hnormal := hv.normal
  have hpos := Nat.two_pow_pos p.fbits
  omega

/-! ### With their signs -/

/-- Signed numbers are ordered as others whose magnitudes are ordered alike. -/
theorem signedMant_lt_iff {a b c d : Nat} (hlt : a < b ↔ c < d) (hgt : b < a ↔ d < c)
    (ha : a = 0 ↔ c = 0) (hb : b = 0 ↔ d = 0) :
    signedMant n1 a < signedMant n2 b ↔ signedMant n1 c < signedMant n2 d := by
  cases n1 <;> cases n2 <;> simp only [signedMant, if_true, if_false, Bool.false_eq_true] <;> omega

theorem signedMant_mul (n : Bool) (a b : Nat) : signedMant n (a * b) = signedMant n a * b := by
  cases n with
  | false => exact Int.natCast_mul a b
  | true => exact (congrArg Neg.neg (Int.natCast_mul a b)).trans (Int.neg_mul ..).symm

/-- A value in units of a smaller place. -/
theorem scaled_eq_mul {n : Bool} {m : Nat} {e c d : Int} (hdc : d ≤ c) (hce : c ≤ e) :
    scaled n m e d = scaled n m e c * (2 ^ (c - d).toNat : Nat) := by
  rw [scaled, scaled, ← signedMant_mul, Nat.mul_assoc, ← Nat.pow_add,
    show (e - c).toNat + (c - d).toNat = (e - d).toNat by omega]

theorem Prec.IsFinite.scaled_lt_iff (hv : p.IsFinite v n1 m1 e1) (hw : p.IsFinite w n2 m2 e2) :
    scaled n1 m1 e1 (Min.min e1 e2) < scaled n2 m2 e2 (Min.min e1 e2) ↔ p.valueKey v < p.valueKey w := by
  have hqmin : p.qmin ≤ Min.min e1 e2 := Int.le_min.2 ⟨hv.qmin_le, hw.qmin_le⟩
  have hpos : (0 : Int) < (2 ^ (Min.min e1 e2 - p.qmin).toNat : Nat) :=
    Int.natCast_pos.2 (Nat.two_pow_pos _)
  rw [← Int.mul_lt_mul_right hpos, ← scaled_eq_mul hqmin (Int.min_le_left ..),
    ← scaled_eq_mul hqmin (Int.min_le_right ..), Prec.valueKey, Prec.valueKey, hv.sign, hw.sign]
  exact signedMant_lt_iff (hv.units_lt_iff hw) (hw.units_lt_iff hv) hv.units_eq_zero_iff
    hw.units_eq_zero_iff

theorem Prec.IsFinite.scaled_eq_iff (hv : p.IsFinite v n1 m1 e1) (hw : p.IsFinite w n2 m2 e2) :
    scaled n1 m1 e1 (Min.min e1 e2) = scaled n2 m2 e2 (Min.min e1 e2) ↔ p.valueKey v = p.valueKey w := by
  have hlt := hv.scaled_lt_iff hw
  have hgt := hw.scaled_lt_iff hv
  rw [Int.min_comm] at hgt
  omega

end

/-! ### With the infinities -/

section
variable (p : Prec) (v : Nat)

theorem Prec.isInf_of_unpack {n : Bool} (h : p.unpack v = .inf n) : p.negOf v = n ∧ p.magOf v = p.infMag := by
  simp only [Prec.unpack] at h
  split at h
  next hfull =>
    split at h
    next hzero =>
      cases h
      refine ⟨rfl, ?_⟩
      rw [← Nat.div_add_mod' (p.magOf v) (2 ^ p.fbits), hfull, hzero, Nat.add_zero, Prec.infMag]
    next => cases h
  next => split at h <;> cases h

theorem Prec.infMag_pos : 0 < p.infMag := by
  cases p <;> decide

variable {p v} {w : Nat}

/-- Two patterns that are no NaN are ordered as their keys. -/
theorem Prec.order_iff_valueKey (hv : (p.unpack v).isNaN = false) (hw : (p.unpack w).isNaN = false) :
    ((p.unpack v).lt (p.unpack w) ↔ p.valueKey v < p.valueKey w) ∧
    ((p.unpack v).same (p.unpack w) ↔ p.valueKey v = p.valueKey w) := by
  have hpos := p.infMag_pos
  cases hx : p.unpack v with
  | nan _ => simp [hx, FpVal.isNaN] at hv
  | inf n =>
    obtain ⟨hsign, hmag⟩ := p.isInf_of_unpack v hx
    cases hy : p.unpack w with
    | nan _ => simp [hy, FpVal.isNaN] at hw
    | inf m =>
      obtain ⟨hsign', hmag'⟩ := p.isInf_of_unpack w hy
      rw [Prec.valueKey, Prec.valueKey, hsign, hmag, hsign', hmag']
      cases n <;> cases m <;> simp [FpVal.lt, FpVal.same, signedMant] <;> omega
    | finite m m2 e2 =>
      have hfin := p.isFinite_of_unpack w hy
      have hbelow := hfin.below_inf
      rw [Prec.valueKey, Prec.valueKey, hsign, hmag, hfin.sign]
      cases n <;> cases m <;> simp [FpVal.lt, FpVal.same, signedMant] <;> omega
  | finite n m1 e1 =>
    have hfin := p.isFinite_of_unpack v hx
    cases hy : p.unpack w with
    | nan _ => simp [hy, FpVal.isNaN] at hw
    | inf m =>
      obtain ⟨hsign', hmag'⟩ := p.isInf_of_unpack w hy
      have hbelow := hfin.below_inf
      rw [Prec.valueKey, Prec.valueKey, hsign', hmag', hfin.sign]
      cases n <;> cases m <;> simp [FpVal.lt, FpVal.same, signedMant] <;> omega
    | finite m m2 e2 =>
      have hfin' := p.isFinite_of_unpack w hy
      exact ⟨hfin.scaled_lt_iff hfin', hfin.scaled_eq_iff hfin'⟩

theorem FpVal.not_lt_of_nan {x y : FpVal} (h : (x.isNaN || y.isNaN) = true) : ¬x.lt y := by
  cases x <;> cases y <;> simp_all [FpVal.lt, FpVal.isNaN]

theorem FpVal.not_same_of_nan {x y : FpVal} (h : (x.isNaN || y.isNaN) = true) : ¬x.same y := by
  cases x <;> cases y <;> simp_all [FpVal.same, FpVal.isNaN]

end

/-! ## Comparisons -/

theorem comparisonsAre (p : Prec) (a b : Nat) : ComparisonsAre p a b (p.eq a b) (p.lt a b) (p.le a b) := by
  rw [ComparisonsAre, Prec.eq, Prec.lt, Prec.le]
  cases hnan : (p.unpack a).isNaN || (p.unpack b).isNaN with
  | true =>
    have hor : (p.unpack a).isNaN = true ∨ (p.unpack b).isNaN = true := by simpa using hnan
    refine ⟨by simpa using FpVal.not_same_of_nan hnan, by simpa using FpVal.not_lt_of_nan hnan, ?_,
      fun _ => ⟨rfl, rfl, rfl⟩, fun ha hb => by simp [ha, hb] at hnan, rfl⟩
    simpa using ⟨FpVal.not_lt_of_nan hnan, FpVal.not_same_of_nan hnan⟩
  | false =>
    obtain ⟨ha, hb⟩ := Bool.or_eq_false_iff.1 hnan
    obtain ⟨hlt, hsame⟩ := Prec.order_iff_valueKey ha hb
    refine ⟨by simp [hsame], by simp [hlt], by simp [hlt, hsame, Int.le_iff_lt_or_eq], fun h => ?_,
      fun _ _ => ⟨rfl, rfl⟩, rfl⟩
    simp [ha, hb] at h

/-! ## Minimum and maximum -/

section
variable {p : Prec} {a b : Nat}

theorem Prec.orderKey_lt_of_valueKey_lt (h : p.valueKey a < p.valueKey b) : p.orderKey a < p.orderKey b := by
  rw [Prec.valueKey, Prec.valueKey] at h
  rw [Prec.orderKey, Prec.orderKey]
  cases ha : p.negOf a <;> cases hb : p.negOf b <;> simp [signedMant, ha, hb] at h ⊢ <;> omega

/-- Of two numbers the keys decide. -/
theorem Prec.pick_of_numbers (first : Int → Int → Bool) (ha : (p.unpack a).isNaN = false)
    (hb : (p.unpack b).isNaN = false) :
    (p.pick first a b).1 = if first (p.orderKey a) (p.orderKey b) then a else b := by
  simp [Prec.pick, ha, hb]

theorem Prec.min_max_of_orderKey_lt (ha : (p.unpack a).isNaN = false) (hb : (p.unpack b).isNaN = false)
    (h : p.orderKey a < p.orderKey b) : (p.min a b).1 = a ∧ (p.max a b).1 = b := by
  rw [Prec.min, Prec.max, Prec.pick_of_numbers _ ha hb, Prec.pick_of_numbers _ ha hb]
  simp [Int.le_of_lt h, Int.not_le.2 h]

theorem Prec.min_max_of_orderKey_gt (ha : (p.unpack a).isNaN = false) (hb : (p.unpack b).isNaN = false)
    (h : p.orderKey b < p.orderKey a) : (p.min a b).1 = b ∧ (p.max a b).1 = a := by
  rw [Prec.min, Prec.max, Prec.pick_of_numbers _ ha hb, Prec.pick_of_numbers _ ha hb]
  simp [Int.le_of_lt h, Int.not_le.2 h]

theorem FpVal.numbers_of_lt {x y : FpVal} (h : x.lt y) : x.isNaN = false ∧ y.isNaN = false := by
  cases x <;> cases y <;> simp_all [FpVal.lt, FpVal.isNaN]

/-- A pattern with magnitude 0 is a zero. -/
theorem Prec.isNaN_of_magOf_zero (h : p.magOf a = 0) : (p.unpack a).isNaN = false := by
  have hmax : p.expMax ≠ 0 := by cases p <;> decide
  simp [Prec.unpack, h, hmax.symm, FpVal.isNaN]

end

theorem Prec.negOf_magOf_signBit (p : Prec) :
    p.negOf (2 ^ (p.ebits + p.fbits)) = true ∧ p.magOf (2 ^ (p.ebits + p.fbits)) = 0 := by
  cases p <;> decide

theorem Prec.negOf_magOf_zero (p : Prec) : p.negOf 0 = false ∧ p.magOf 0 = 0 := by
  cases p <;> decide

theorem minMaxIs (p : Prec) (a b : Nat) : MinMaxIs p a b (p.min a b) (p.max a b) := by
  obtain ⟨hnegMinus, hmagMinus⟩ := p.negOf_magOf_signBit
  obtain ⟨hnegPlus, hmagPlus⟩ := p.negOf_magOf_zero
  have hzeros : p.orderKey (2 ^ (p.ebits + p.fbits)) < p.orderKey 0 := by
    simp [Prec.orderKey, hnegMinus, hmagMinus, hnegPlus, hmagPlus]
  refine ⟨rfl, rfl, fun ha hb => ?_, fun ha hb => ?_, fun ha hb => ?_, fun h => ?_, fun h => ?_, ?_, ?_, ?_⟩
  · simp [Prec.min, Prec.max, Prec.pick, ha, hb, Prec.nanOf, Prec.canonicalNaN, Prec.infMag_eq]
  · simp [Prec.min, Prec.max, Prec.pick, ha, hb]
  · simp [Prec.min, Prec.max, Prec.pick, ha, hb]
  · obtain ⟨ha, hb⟩ := FpVal.numbers_of_lt h
    obtain ⟨hlt, -⟩ := Prec.order_iff_valueKey ha hb
    exact Prec.min_max_of_orderKey_lt ha hb (Prec.orderKey_lt_of_valueKey_lt (hlt.1 h))
  · obtain ⟨hb, ha⟩ := FpVal.numbers_of_lt h
    obtain ⟨hlt, -⟩ := Prec.order_iff_valueKey hb ha
    exact Prec.min_max_of_orderKey_gt ha hb (Prec.orderKey_lt_of_valueKey_lt (hlt.1 h))
  · rintro rfl rfl
    exact Prec.min_max_of_orderKey_lt (Prec.isNaN_of_magOf_zero hmagMinus)
      (Prec.isNaN_of_magOf_zero hmagPlus) hzeros
  · rintro rfl rfl
    exact Prec.min_max_of_orderKey_gt (Prec.isNaN_of_magOf_zero hmagPlus)
      (Prec.isNaN_of_magOf_zero hmagMinus) hzeros
  · rintro rfl ha
    simp [Prec.min, Prec.max, Prec.pick_of_numbers _ ha ha]

/-- Settles O52: the instructions by their shape, and the order of the patterns. -/
theorem fpSignMinMax : Obligations.FpSignMinMax := by
  refine ⟨fun s fd fs1 fs2 => ⟨fun hF => ?single, fun hD => ?double, State.numerics_of_ieee⟩, minMaxIs⟩
  case single =>
    have ha := s.rdP_lt .single fs1
    have hb := s.rdP_lt .single fs2
    exact ⟨.of_fpSign hF (congrArg _ (State.listed_of_unless hF _ rfl)) (Prec.withSign_negOf _ hb),
      .of_fpSign hF (congrArg _ (State.listed_of_unless hF _ rfl)) (Prec.withSign_not_negOf _ hb),
      .of_fpSign hF (congrArg _ (State.listed_of_unless hF _ rfl)) (Prec.withSign_xor_negOf _ ha hb),
      .of_fpPick hF (congrArg _ (State.listed_of_unless hF _ rfl)),
      .of_fpPick hF (congrArg _ (State.listed_of_unless hF _ rfl))⟩
  case double =>
    have ha := s.rdP_lt .double fs1
    have hb := s.rdP_lt .double fs2
    exact ⟨.of_fpSign hD (congrArg _ (State.listed_of_unless hD _ rfl)) (Prec.withSign_negOf _ hb),
      .of_fpSign hD (congrArg _ (State.listed_of_unless hD _ rfl)) (Prec.withSign_not_negOf _ hb),
      .of_fpSign hD (congrArg _ (State.listed_of_unless hD _ rfl)) (Prec.withSign_xor_negOf _ ha hb),
      .of_fpPick hD (congrArg _ (State.listed_of_unless hD _ rfl)),
      .of_fpPick hD (congrArg _ (State.listed_of_unless hD _ rfl))⟩

/-! ## Classification -/

section
variable (p : Prec) (a : Nat)

theorem Prec.expField_eq : p.magOf a / 2 ^ p.fbits = a / 2 ^ p.fbits % 2 ^ p.ebits := by
  rw [Prec.magOf, Prec.signBit, Nat.add_comm, Nat.pow_add, Nat.mod_mul_right_div_self]

theorem Prec.fracField_eq : p.magOf a % 2 ^ p.fbits = a % 2 ^ p.fbits :=
  Nat.mod_mod_of_dvd _ (Nat.pow_dvd_pow 2 (Nat.le_add_left ..))

theorem Prec.classBit_lt : p.classBit a < 10 := by
  unfold Prec.classBit
  cases p.unpack a with
  | nan s => cases s <;> simp
  | inf n => cases n <;> simp
  | finite n m e =>
    dsimp only
    repeat' split
    all_goals decide

theorem Prec.toNat_classify : (ieeeNumerics.classify p a).toNat = 2 ^ p.classBit a :=
  Nat.mod_eq_of_lt (Nat.pow_lt_pow_right (by decide) (p.classBit_lt a))

theorem classIs : ClassIs p a (ieeeNumerics.classify p a).toNat := by
  have hneg : a / 2 ^ (p.ebits + p.fbits) % 2 = 1 ↔ p.negOf a = true := beq_iff_eq.symm
  have hmax : (0 : Nat) ≠ p.expMax := by cases p <;> decide
  have hfrac : a % 2 ^ p.fbits < 2 ^ p.fbits := Nat.mod_lt _ (Nat.two_pow_pos _)
  have hquiet : a % 2 ^ p.fbits / 2 ^ (p.fbits - 1) = 0 ↔ a % 2 ^ p.fbits < 2 ^ (p.fbits - 1) :=
    Nat.div_eq_zero_iff_lt (Nat.two_pow_pos _)
  rw [Prec.toNat_classify, Prec.classBit, Prec.unpack, p.expField_eq, p.fracField_eq]
  simp only [ClassIs, hneg]
  refine ⟨fun (he : _ = p.expMax) hm => ?_, fun (he : _ = p.expMax) hm => ?_, fun he hm => ?_,
    fun he hm => ?_, fun hzero (htop : _ ≠ p.expMax) => ?_⟩
  · rw [if_pos he, if_pos hm]
    cases p.negOf a <;> rfl
  · rw [if_pos he, if_neg hm]
    by_cases hlow : a % 2 ^ p.fbits < 2 ^ (p.fbits - 1)
    · simp [hlow, hquiet.2 hlow]
    · simp [hlow, beq_false_of_ne (mt hquiet.1 hlow)]
  · rw [he, if_neg hmax, if_pos rfl]
    cases p.negOf a <;> simp [hm]
  · rw [he, if_neg hmax, if_pos rfl]
    cases p.negOf a <;> simp [hm, hfrac]
  · have hlarge : ¬a % 2 ^ p.fbits + 2 ^ p.fbits < 2 ^ p.fbits := by omega
    rw [if_neg htop, if_neg hzero]
    cases p.negOf a <;> simp [hlarge]

end

/-- Settles O53: the instructions by their shape, the comparisons by the order of the values. -/
theorem fpCompareClassify : Obligations.FpCompareClassify := by
  refine ⟨fun s rd fs1 fs2 => ⟨fun hF => ?single, fun hD => ?double, State.numerics_of_ieee⟩,
    fun p a b => ⟨comparisonsAre p a b, classIs p a⟩⟩
  case single =>
    exact ⟨.of_fpCompare (congrArg _ (State.listed_of_unless hF _ rfl)),
      .of_fpCompare (congrArg _ (State.listed_of_unless hF _ rfl)),
      .of_fpCompare (congrArg _ (State.listed_of_unless hF _ rfl)),
      .of_classify (congrArg _ (State.listed_of_unless hF _ rfl))⟩
  case double =>
    exact ⟨.of_fpCompare (congrArg _ (State.listed_of_unless hD _ rfl)),
      .of_fpCompare (congrArg _ (State.listed_of_unless hD _ rfl)),
      .of_fpCompare (congrArg _ (State.listed_of_unless hD _ rfl)),
      .of_classify (congrArg _ (State.listed_of_unless hD _ rfl))⟩

end Sys2Proof.Machine
end


section
/-! Conversions (`spec/42_rvfd.md` R260 to R263, R268 to R273): the functions of the reference
`FP_NUMERICS`, which conversions are exact, and the ten instructions. -/

namespace Sys2Proof.Machine

/-! ## To an integer -/

theorem toIntIs_toInt (p : Prec) {lo hi : Int} (hle : lo ≤ hi) (mode : RoundMode) (a : Nat) :
    ToIntIs mode lo hi (p.unpack a) (p.toInt lo hi mode a) := by
  unfold Prec.toInt
  cases p.unpack a with
  | nan _ | inf _ => rfl
  | finite n m e =>
    exact ⟨fun hlo hhi => (if_neg (Int.not_lt.2 hlo)).trans (if_neg (Int.not_lt.2 hhi)), fun hlo => if_pos hlo,
      fun hhi => (if_neg (Int.lt_asymm (Int.lt_of_le_of_lt hle hhi))).trans (if_pos hhi)⟩

/-- Saturation: the integer is in the range. -/
theorem Prec.toInt_mem (p : Prec) {lo hi : Int} (hle : lo ≤ hi) (mode : RoundMode) (a : Nat) :
    lo ≤ (p.toInt lo hi mode a).1 ∧ (p.toInt lo hi mode a).1 ≤ hi := by
  unfold Prec.toInt
  cases p.unpack a with
  | nan _ => exact ⟨hle, Int.le_refl _⟩
  | inf n => cases n <;> simp [hle]
  | finite n m e =>
    dsimp only
    split
    next => exact ⟨Int.le_refl _, hle⟩
    next hlo =>
      split
      next => exact ⟨hle, Int.le_refl _⟩
      next hhi => exact ⟨Int.not_lt.1 hlo, Int.not_lt.1 hhi⟩

theorem toInt_toPattern32 {r : Int × FlagSet} (hlo : -2 ^ 31 ≤ r.1) (hhi : r.1 ≤ 2 ^ 31 - 1) :
    ((toPattern32 r).1.toInt, (toPattern32 r).2) = r := by
  rw [toPattern32, BitVec.toInt_ofInt_eq_self (by decide) (by simpa using hlo) (by simp; omega)]

theorem toNat_toPattern32 {r : Int × FlagSet} (hlo : 0 ≤ r.1) (hhi : r.1 ≤ 2 ^ 32 - 1) :
    (((toPattern32 r).1.toNat : Int), (toPattern32 r).2) = r := by
  rw [toPattern32, toNat_eq_emod_of_eq_ofInt rfl, Int.emod_eq_of_lt hlo (by omega)]

/-! ## From an integer, and between the precisions -/

section
variable {p : Prec} {mode : RoundMode}

theorem fromIntIs_fromInt (p : Prec) (mode : RoundMode) (i : Int) : FromIntIs p mode i (p.fromInt mode i) := by
  refine ⟨?_, fun hne => roundOrZero_of_ne (Int.natAbs_ne_zero.2 hne) _ _⟩
  rintro rfl
  exact roundOrZero_zero _ _

theorem convertIs_convert (p q : Prec) (mode : RoundMode) (a : Nat) :
    ConvertIs q mode (p.unpack a) (p.convert q mode a) := by
  unfold Prec.convert
  cases p.unpack a with
  | nan _ => rfl
  | inf n => exact q.infResult_eq n
  | finite n m e =>
    dsimp only
    exact ⟨fun hzero => by rw [hzero, roundOrZero_zero], fun hne => roundOrZero_of_ne hne _ _⟩

/-! ### Exact conversions -/

/-- A value with no digit below the last place and a leading digit in the range fits. -/
theorem Prec.roundedMag_lt_infMag {neg : Bool} {mant : Nat} {exp : Int}
    (hq : Prec.lastPlace p mant exp ≤ exp) (hlead : exp + mant.log2 ≤ p.bias) :
    Prec.roundedMag p mode neg mant exp < p.infMag := by
  have hround : (roundAt mode neg mant exp (p.lastPlace mant exp)).1 < 2 ^ (p.fbits + 1) :=
    roundAt_lt_of_le mode neg mant hq (by rw [Prec.lastPlace]; omega)
  have hplace : (p.lastPlace mant exp - p.qmin).toNat + 2 ≤ p.expMax := by
    have hmax : (p.expMax : Int) = 2 * p.bias + 1 := by cases p <;> decide
    have hqmin : p.qmin = 1 - p.bias - p.fbits := rfl
    have hbias : 0 < p.bias := by cases p <;> decide
    rw [Prec.lastPlace]
    omega
  have hmul : ((p.lastPlace mant exp - p.qmin).toNat + 2) * 2 ^ p.fbits ≤ p.expMax * 2 ^ p.fbits :=
    Nat.mul_le_mul_right _ hplace
  rw [Nat.pow_succ] at hround
  rw [Nat.add_mul] at hmul
  rw [Prec.roundedMag, Prec.infMag]
  omega

/-- Such a value rounds to itself in every mode, with no flag. -/
theorem Prec.round_of_fits {neg : Bool} {mant : Nat} {exp : Int} (hqmin : p.qmin ≤ exp)
    (hdigits : mant.log2 ≤ p.fbits) (hlead : exp + mant.log2 ≤ p.bias) :
    p.round mode neg mant exp = (p.withSign neg (Prec.roundedMag p .rne neg mant exp), 0#5) := by
  have hq : p.lastPlace mant exp ≤ exp := by
    rw [Prec.lastPlace]
    omega
  rw [Prec.round_of_exact hq (Prec.roundedMag_lt_infMag hq hlead), Prec.roundedMag, Prec.roundedMag,
    roundAt_of_le mode neg mant hq, roundAt_of_le .rne neg mant hq]

/-- A double holds every integer of 32 bits. -/
theorem fromInt_double_flags {i : Int} (hi : i.natAbs ≤ 2 ^ 32) :
    (Prec.double.fromInt mode i).2 = 0#5 := by
  by_cases hzero : i = 0
  · rw [(fromIntIs_fromInt .double mode i).1 hzero]
  · rw [(fromIntIs_fromInt .double mode i).2 hzero]
    have hlog : i.natAbs.log2 < 33 := (Nat.log2_lt (Int.natAbs_ne_zero.2 hzero)).2 (by omega)
    rw [Prec.round_of_fits (by decide) (show i.natAbs.log2 ≤ 52 by omega)
      (show (0 : Int) + i.natAbs.log2 ≤ 1023 by omega)]

theorem natAbs_toInt_le (n : BitVec 32) : n.toInt.natAbs ≤ 2 ^ 32 := by
  have hlo := n.le_toInt
  have hhi := n.toInt_lt
  omega

/-- A double holds every value of a single. -/
theorem double_round_of_single {a m : Nat} {n : Bool} {e : Int} (hx : Prec.single.unpack a = .finite n m e)
    (hm : m ≠ 0) (mode : RoundMode) :
    Prec.double.round mode n m e = (Prec.double.withSign n (Prec.roundedMag .double .rne n m e), 0#5) := by
  have hfin := Prec.single.isFinite_of_unpack a hx
  have hqmin : -149 ≤ e := hfin.qmin_le
  have hlog : m.log2 < 24 := (Nat.log2_lt hm).2 hfin.mant_lt
  have hexp : (e - Prec.single.qmin).toNat * 2 ^ 23 + m < 255 * 2 ^ 23 := hfin.mag ▸ hfin.below_inf
  rw [show Prec.single.qmin = -149 from rfl] at hexp
  exact Prec.round_of_fits (show (-1074 : Int) ≤ e by omega) (show m.log2 ≤ 52 by omega)
    (show e + m.log2 ≤ (1023 : Int) by omega)

theorem convert_single_double_flags (a : Nat) :
    (Prec.single.convert .double mode a).2 = if (Prec.single.unpack a).isSignaling then flagNV else 0#5 := by
  unfold Prec.convert
  cases hx : Prec.single.unpack a with
  | nan _ | inf _ => rfl
  | finite n m e =>
    dsimp only
    by_cases hm : m = 0
    · rw [hm, roundOrZero_zero]
      rfl
    · rw [roundOrZero_of_ne hm, double_round_of_single hx hm]
      rfl

/-- The mode of a conversion to a double does not matter (R273). -/
theorem convert_single_double_mode (mode mode' : RoundMode) (a : Nat) :
    Prec.single.convert .double mode a = Prec.single.convert .double mode' a := by
  unfold Prec.convert
  cases hx : Prec.single.unpack a with
  | nan _ | inf _ => rfl
  | finite n m e =>
    dsimp only
    by_cases hm : m = 0
    · rw [hm, roundOrZero_zero, roundOrZero_zero]
    · rw [roundOrZero_of_ne hm, roundOrZero_of_ne hm, double_round_of_single hx hm,
        double_round_of_single hx hm]

end

/-- Settles O54: the instructions by their shape, the reference functions one by one. -/
theorem fpConversions : Obligations.FpConversions := by
  refine ⟨fun s rd fd fs1 rs1 rm mode hmode => ⟨fun hF => ?single, fun hD => ?double,
    State.numerics_of_ieee⟩, fun p mode a n => ?reference⟩
  case single =>
    exact ⟨.of_fpToInt hmode (congrArg _ (State.listed_of_unless hF _ rfl)),
      .of_fpToInt hmode (congrArg _ (State.listed_of_unless hF _ rfl)),
      .of_fpFromInt hF hmode (congrArg _ (State.listed_of_unless hF _ rfl)),
      .of_fpFromInt hF hmode (congrArg _ (State.listed_of_unless hF _ rfl))⟩
  case double =>
    have hp : s.HasPrec .double := hD
    have hF : s.HasPrec .single := Isa.hasF_of_hasD hD
    exact ⟨.of_fpToInt hmode (congrArg _ (State.listed_of_unless hD _ rfl)),
      .of_fpToInt hmode (congrArg _ (State.listed_of_unless hD _ rfl)),
      .of_fpFromInt hD hmode (congrArg _ (State.listed_of_unless hD _ rfl)),
      .of_fpFromInt hD hmode (congrArg _ (State.listed_of_unless hD _ rfl)),
      .of_fpConvert hF hmode (congrArg _ (State.listed_of_unless hD _ rfl)),
      .of_fpConvert (op := fun _ => s.numerics.sToD) hp hmode (congrArg _ (State.listed_of_unless hD _ rfl))⟩
  case reference =>
    obtain ⟨hlo, hhi⟩ := p.toInt_mem (lo := -2 ^ 31) (hi := 2 ^ 31 - 1) (by decide) mode a
    obtain ⟨hlo', hhi'⟩ := p.toInt_mem (lo := 0) (hi := 2 ^ 32 - 1) (by decide) mode a
    have hsigned := toInt_toPattern32 hlo hhi
    have hunsigned := toNat_toPattern32 hlo' hhi'
    refine ⟨hsigned ▸ toIntIs_toInt p (by decide) mode a, hunsigned ▸ toIntIs_toInt p (by decide) mode a,
      fromIntIs_fromInt .., fromIntIs_fromInt ..,
      ⟨fromInt_double_flags (natAbs_toInt_le n), fromInt_double_flags (Nat.le_of_lt n.isLt)⟩,
      convertIs_convert .., ?_, convert_single_double_flags a⟩
    change ConvertIs .double mode _ (Prec.single.convert .double .rne a)
    rw [convert_single_double_mode .rne mode]
    exact convertIs_convert ..

end Sys2Proof.Machine
end
